-- ==== Sys2Proof/Word.lean ====
section
/-! DEFINITION. The widths of the block's values (00_scope R3, 00_scope §3). Every value is unsigned. -/

namespace Sys2Proof

/-- An input byte, a payload byte, a name byte, the checksum (R3). -/
abbrev Byte := BitVec 8

/-- A declared length, `exp_len`, `count`, an event's name or length (R3, R12, R13, R19). -/
abbrev Word := BitVec 16

/-- A payload buffer address (R40). -/
abbrev Addr := BitVec 16

/-- A code of the phase register (R10). -/
abbrev PhaseCode := BitVec 4

/-- The decode key `K` of a byte token, phase code above byte (R60). -/
abbrev TokenKey := BitVec 12

/-- The port command key `P` (R64). -/
abbrev PortKey := BitVec 5

end Sys2Proof
end

