-- ==== Sys2Proof/Config.lean ====
section
/-! DEFINITION. What the spec fixes for this block (markers, phase codes, class codes) and the one value it leaves
open (the power-on contents of the payload buffer). -/

namespace Sys2Proof

/-- The sync marker `SYNC` (R2). -/
def Config.sync : Byte := 0x16#8
/-- The escape marker `ESC` (R2). -/
def Config.esc : Byte := 0x1B#8
/-- The end-of-transmission marker `END` (R2). -/
def Config.endMark : Byte := 0x17#8

/-- The power-on byte of each buffer address: any value, constant until the address is written (R16, R51;
93_implementation_defined I1). A FREE VALUE: it has no body, so nothing can be proved of it (entry 2). -/
opaque Config.powerOnByte : Addr → Byte

/-- Seeking Sync (R10). -/
def Phase.seek : PhaseCode := 0x0#4
/-- Sync Confirm (R10). -/
def Phase.sync : PhaseCode := 0x1#4
/-- Length High (R10). -/
def Phase.lenHi : PhaseCode := 0x2#4
/-- Length Low (R10). -/
def Phase.lenLo : PhaseCode := 0x3#4
/-- Name 1 (R10). -/
def Phase.name1 : PhaseCode := 0x4#4
/-- Name 2 (R10). -/
def Phase.name2 : PhaseCode := 0x5#4
/-- Data (R10). -/
def Phase.data : PhaseCode := 0x6#4
/-- Trailer (R10). -/
def Phase.trailer : PhaseCode := 0x7#4
/-- Checksum (R10). -/
def Phase.cksum : PhaseCode := 0x8#4
/-- The first reserved code; 0x9 to 0xF are reserved and decode as Seeking Sync (R11, R67). -/
def Phase.firstReserved : PhaseCode := 0x9#4

/-- Content class `TEXT` (R17). -/
def Kind.text : BitVec 1 := 0#1
/-- Content class `OBJECT` (R17). -/
def Kind.object : BitVec 1 := 1#1

/-- The error classes of a Block Event (R150). -/
inductive ErrClass where
  /-- the end marker and the checksum matched -/
  | none
  /-- Trailer Error: the byte after the payload was not the end marker -/
  | trailer
  /-- Checksum Error: the end marker matched, the checksum byte did not -/
  | checksum
deriving DecidableEq, Repr

/-- The two-bit code of an error class; code 3 is reserved and never written (R150). -/
def ErrClass.code : ErrClass → BitVec 2
  | .none => 0#2
  | .trailer => 1#2
  | .checksum => 2#2

end Sys2Proof
end

