-- ==== Sys2Proof/Syntax.lean ====
section
/-! DEFINITION. The block's instruction set: one constructor per row of spec/opcode_table.json. The block runs no
program; its instructions are the byte tokens (R61) and the port commands (R64). A token's operand is the accepted
byte, where the row does not fix it. -/

namespace Sys2Proof

/-- One row of the opcode table, with the row's operands. -/
inductive Instr where
  /-- row 1: the first sync byte ends the search (R100) -/
  | seekSync
  /-- row 2: any other byte in Seeking Sync is discarded (R101) -/
  | seekNoise (b : Byte)
  /-- row 3: a further sync byte (R102) -/
  | syncMore
  /-- row 4: the escape marker ends the sync run (R103) -/
  | syncEsc
  /-- row 5: any other byte abandons the sync run (R104) -/
  | syncDesync (b : Byte)
  /-- row 6: high byte of the declared length (R110) -/
  | lenHiLoad (h : Byte)
  /-- row 7: low byte of the declared length (R111) -/
  | lenLoLoad (l : Byte)
  /-- row 8: first name byte (R112) -/
  | name1Load (n : Byte)
  /-- row 9: second name byte (R113) -/
  | name2Load (n : Byte)
  /-- row 10: one payload byte (R120) -/
  | dataAppend (d : Byte)
  /-- row 11: the end marker is present (R131) -/
  | trailerOk
  /-- row 12: the end marker is missing (R132) -/
  | trailerErr (b : Byte)
  /-- row 13: the checksum byte equals the rolling checksum (R133) -/
  | cksumOk (c : Byte)
  /-- row 14: the checksum byte differs from the rolling checksum (R134) -/
  | cksumErr (c : Byte)
  /-- row 15: a sync byte in a reserved phase (R11, R100) -/
  | rsvdAsSeekSync (p : PhaseCode)
  /-- row 16: any other byte in a reserved phase (R11, R101) -/
  | rsvdAsSeekNoise (p : PhaseCode) (b : Byte)
  /-- port command: hardware reset (R83) -/
  | reset
  /-- port command: the source's `begin()` (R84) -/
  | beginStream
  /-- port command: the host acknowledges the pending event (R87) -/
  | evtAck
  /-- port command: an event is pending and not acknowledged (R86) -/
  | evtHold
  /-- port command: accept the byte `b` on `in_data` (R85) -/
  | feed (b : Byte)
  /-- port command: nothing to do (R89) -/
  | idle
  /-- the combinational read port, at address `a` on `rd_addr` (R88) -/
  | bufRead (a : Addr)
deriving DecidableEq, Repr

end Sys2Proof
end

