-- ==== Sys2Proof/WellFormed.lean ====
section
/-! DEFINITION. Which operands each instruction admits (the "byte pattern" and "state condition" columns of R61). -/

namespace Sys2Proof

/-- The operands an instruction may carry: a byte that an earlier row of R61 takes is not an operand of a later one,
and rows 15 and 16 carry a reserved phase code. Port commands admit every operand (R66). -/
def Instr.wellFormed : Instr → Bool
  | .seekSync => true
  | .seekNoise b => b != Config.sync
  | .syncMore => true
  | .syncEsc => true
  | .syncDesync b => b != Config.sync && b != Config.esc
  | .lenHiLoad _ => true
  | .lenLoLoad _ => true
  | .name1Load _ => true
  | .name2Load _ => true
  | .dataAppend _ => true
  | .trailerOk => true
  | .trailerErr b => b != Config.endMark
  | .cksumOk _ => true
  | .cksumErr _ => true
  | .rsvdAsSeekSync p => Phase.firstReserved.ule p
  | .rsvdAsSeekNoise p b => Phase.firstReserved.ule p && b != Config.sync
  | .reset => true
  | .beginStream => true
  | .evtAck => true
  | .evtHold => true
  | .feed _ => true
  | .idle => true
  | .bufRead _ => true

/-- The state condition of rows 13 and 14 of R61, which share match and mask: the byte against the rolling checksum.
Every other instruction has no condition on the register. -/
def Instr.stateCondition (checksum : Byte) : Instr → Bool
  | .cksumOk c => c == checksum
  | .cksumErr c => c != checksum
  | .seekSync => true
  | .seekNoise _ => true
  | .syncMore => true
  | .syncEsc => true
  | .syncDesync _ => true
  | .lenHiLoad _ => true
  | .lenLoLoad _ => true
  | .name1Load _ => true
  | .name2Load _ => true
  | .dataAppend _ => true
  | .trailerOk => true
  | .trailerErr _ => true
  | .rsvdAsSeekSync _ => true
  | .rsvdAsSeekNoise _ _ => true
  | .reset => true
  | .beginStream => true
  | .evtAck => true
  | .evtHold => true
  | .feed _ => true
  | .idle => true
  | .bufRead _ => true

end Sys2Proof
end

