-- ==== Sys2Proof/Decode.lean ====
section
/-! DEFINITION. The decoder and the encoder (30_encoding.md). Two kinds of input are decoded: a byte token against the
key `{phase, byte}` (R60, R61), and the port command of one cycle (R64). Decoding is total: no byte token and no port
command is illegal (R66). What can be refused is only a number too wide to be a key. -/

namespace Sys2Proof

/-- The rows of R61, by mnemonic. -/
inductive TokenRow where
  | seekSync | seekNoise | syncMore | syncEsc | syncDesync | lenHiLoad | lenLoLoad | name1Load
  | name2Load | dataAppend | trailerOk | trailerErr | cksumOk | cksumErr | rsvdAsSeekSync | rsvdAsSeekNoise
deriving DecidableEq, Repr

/-- The order in which R61 tries its rows. -/
def TokenRow.order : List TokenRow :=
  [.seekSync, .seekNoise, .syncMore, .syncEsc, .syncDesync, .lenHiLoad, .lenLoLoad, .name1Load,
   .name2Load, .dataAppend, .trailerOk, .trailerErr, .cksumOk, .cksumErr, .rsvdAsSeekSync, .rsvdAsSeekNoise]

/-- The "match" column of R61. -/
def TokenRow.value : TokenRow → TokenKey
  | .seekSync => 0x016#12
  | .seekNoise => 0x000#12
  | .syncMore => 0x116#12
  | .syncEsc => 0x11B#12
  | .syncDesync => 0x100#12
  | .lenHiLoad => 0x200#12
  | .lenLoLoad => 0x300#12
  | .name1Load => 0x400#12
  | .name2Load => 0x500#12
  | .dataAppend => 0x600#12
  | .trailerOk => 0x717#12
  | .trailerErr => 0x700#12
  | .cksumOk => 0x800#12
  | .cksumErr => 0x800#12
  | .rsvdAsSeekSync => 0x816#12
  | .rsvdAsSeekNoise => 0x800#12

/-- The "mask" column of R61. -/
def TokenRow.mask : TokenRow → TokenKey
  | .seekSync => 0xFFF#12
  | .seekNoise => 0xF00#12
  | .syncMore => 0xFFF#12
  | .syncEsc => 0xFFF#12
  | .syncDesync => 0xF00#12
  | .lenHiLoad => 0xF00#12
  | .lenLoLoad => 0xF00#12
  | .name1Load => 0xF00#12
  | .name2Load => 0xF00#12
  | .dataAppend => 0xF00#12
  | .trailerOk => 0xFFF#12
  | .trailerErr => 0xF00#12
  | .cksumOk => 0xF00#12
  | .cksumErr => 0xF00#12
  | .rsvdAsSeekSync => 0x8FF#12
  | .rsvdAsSeekNoise => 0x800#12

/-- The key `K = {phase[3:0], b[7:0]}` of R60. -/
def tokenKey (p : PhaseCode) (b : Byte) : TokenKey := p ++ b

/-- `K[11:8]`, the phase code (R60). -/
def tokenPhase (k : TokenKey) : PhaseCode := k.extractLsb' 8 4

/-- `K[7:0]`, the byte (R60). -/
def tokenByte (k : TokenKey) : Byte := k.extractLsb' 0 8

/-- The "state condition" column of R61, on the key and the rolling checksum. -/
def TokenRow.condition (k : TokenKey) (checksum : Byte) : TokenRow → Bool
  | .cksumOk => tokenByte k == checksum
  | .cksumErr => tokenByte k != checksum
  | .rsvdAsSeekSync => Phase.firstReserved.ule (tokenPhase k)
  | .rsvdAsSeekNoise => Phase.firstReserved.ule (tokenPhase k)
  | .seekSync => true
  | .seekNoise => true
  | .syncMore => true
  | .syncEsc => true
  | .syncDesync => true
  | .lenHiLoad => true
  | .lenLoLoad => true
  | .name1Load => true
  | .name2Load => true
  | .dataAppend => true
  | .trailerOk => true
  | .trailerErr => true

/-- A row matches when `(K & mask) == match` and its state condition holds (R61). -/
def TokenRow.hits (k : TokenKey) (checksum : Byte) (r : TokenRow) : Bool :=
  (k &&& r.mask) == r.value && r.condition k checksum

/-- The first row of R61 that matches. Every key has one (R60), so the value after `getD` is never reached. -/
def selectRow (k : TokenKey) (checksum : Byte) : TokenRow :=
  (TokenRow.order.find? (TokenRow.hits k checksum)).getD .rsvdAsSeekNoise

/-- The instruction of a row, its operands taken from the key. -/
def TokenRow.assemble (k : TokenKey) : TokenRow → Instr
  | .seekSync => .seekSync
  | .seekNoise => .seekNoise (tokenByte k)
  | .syncMore => .syncMore
  | .syncEsc => .syncEsc
  | .syncDesync => .syncDesync (tokenByte k)
  | .lenHiLoad => .lenHiLoad (tokenByte k)
  | .lenLoLoad => .lenLoLoad (tokenByte k)
  | .name1Load => .name1Load (tokenByte k)
  | .name2Load => .name2Load (tokenByte k)
  | .dataAppend => .dataAppend (tokenByte k)
  | .trailerOk => .trailerOk
  | .trailerErr => .trailerErr (tokenByte k)
  | .cksumOk => .cksumOk (tokenByte k)
  | .cksumErr => .cksumErr (tokenByte k)
  | .rsvdAsSeekSync => .rsvdAsSeekSync (tokenPhase k)
  | .rsvdAsSeekNoise => .rsvdAsSeekNoise (tokenPhase k) (tokenByte k)

/-- The byte token that key `k` selects, with the rolling checksum for the conditions of rows 13 and 14 (R60, R61). -/
def decodeToken (k : TokenKey) (checksum : Byte) : Instr :=
  (selectRow k checksum).assemble k

/-- The port operation that key `P` selects (R64). `inData` is the byte on `in_data`, FEED's operand. `BUF_READ`
(match 0, mask 0) runs in every cycle besides the operation decoded here. -/
def decodePort (p : PortKey) (inData : Byte) : Instr :=
  if p &&& 0x10#5 = 0x10#5 then .reset
  else if p &&& 0x18#5 = 0x08#5 then .beginStream
  else if p &&& 0x1E#5 = 0x06#5 then .evtAck
  else if p &&& 0x1E#5 = 0x04#5 then .evtHold
  else if p &&& 0x1D#5 = 0x01#5 then .feed inData
  else .idle

/-- The bits an instruction is read from: a byte token's key (R60), a port command's key with the byte on `in_data`
(R64, R85), or the address on `rd_addr` (R88). -/
inductive Code where
  | token (k : TokenKey)
  | port (p : PortKey) (inData : Byte)
  | read (a : Addr)
deriving DecidableEq, Repr

/-- The whole decoder. -/
def decode (checksum : Byte) : Code → Instr
  | .token k => decodeToken k checksum
  | .port p d => decodePort p d
  | .read a => .bufRead a

/-- Why a number is no instruction word. -/
inductive DecodeError where
  /-- the number has a bit above the 5 bits of a port command key (R64) -/
  | portKeyTooWide
  /-- the number has a bit above the 12 bits of a byte token key (R60) -/
  | tokenKeyTooWide
deriving DecidableEq, Repr

/-- The code that stands in the `nbits`-bit number `w`, numbered as spec/opcode_table.json numbers bits: 0 bits is
the row `BUF_READ`, whose mask is 0 (its operand `rd_addr` lies above, so it is 0); up to 8 bits is a port command
key with `in_data` 0 above it; more is a byte token key (entry 11). -/
def codeOfBits (nbits w : Nat) : Except DecodeError Code :=
  if nbits = 0 then .ok (.read 0#16)
  else if nbits ≤ 8 then
    if w < 32 then .ok (.port (BitVec.ofNat 5 w) 0#8) else .error .portKeyTooWide
  else
    if w < 4096 then .ok (.token (BitVec.ofNat 12 w)) else .error .tokenKeyTooWide

/-- The instruction the decoder reads from an opcode-table word. Rows 13 and 14 are told apart by the rolling
checksum, which the word does not hold: it is taken as 0x00, its value after reset (R61, R171; entry 6). -/
def decodeTableWord (nbits w : Nat) : Option Instr :=
  match codeOfBits nbits w with
  | .ok c => some (decode 0#8 c)
  | .error _ => none

/-- The code of an instruction, written from R61 and R64. A bit that R64 does not fix is 0. -/
def encode : Instr → Code
  | .seekSync => .token 0x016#12
  | .seekNoise b => .token (0x0#4 ++ b)
  | .syncMore => .token 0x116#12
  | .syncEsc => .token 0x11B#12
  | .syncDesync b => .token (0x1#4 ++ b)
  | .lenHiLoad h => .token (0x2#4 ++ h)
  | .lenLoLoad l => .token (0x3#4 ++ l)
  | .name1Load n => .token (0x4#4 ++ n)
  | .name2Load n => .token (0x5#4 ++ n)
  | .dataAppend d => .token (0x6#4 ++ d)
  | .trailerOk => .token 0x717#12
  | .trailerErr b => .token (0x7#4 ++ b)
  | .cksumOk c => .token (0x8#4 ++ c)
  | .cksumErr c => .token (0x8#4 ++ c)
  | .rsvdAsSeekSync p => .token (p ++ 0x16#8)
  | .rsvdAsSeekNoise p b => .token (p ++ b)
  | .reset => .port 0x10#5 0#8
  | .beginStream => .port 0x08#5 0#8
  | .evtAck => .port 0x06#5 0#8
  | .evtHold => .port 0x04#5 0#8
  | .feed b => .port 0x01#5 b
  | .idle => .port 0x00#5 0#8
  | .bufRead a => .read a

end Sys2Proof
end

