-- ==== Sys2Proof/Machine/State.lean ====
section
/-! DEFINITION. The block's state (10_state.md section 1), the ports the model holds beside it, the state after reset
(R171), and the reasons a step can stop (none of them arises). -/

namespace Sys2Proof.Machine

/-- The payload buffer, sparse: the bytes written since power-on, addresses strictly rising. An address that is not
listed holds its power-on byte (R16, R51; entry 2). -/
abbrev Memory := List Host.Cell

/-- A byte of the buffer as the read port sees it: one the block wrote, or the power-on byte of address `a`, which
the spec leaves as any value (R51; 93_implementation_defined I1, I6). Its value is `BufByte.value`. -/
inductive BufByte where
  | written (b : Byte)
  | powerOn (a : Addr)
deriving DecidableEq, Repr

/-- The values on the input ports in one cycle (R80). `clk` is the step itself. -/
structure Pins where
  /-- `rst`, synchronous reset, active high -/
  rst : Bool
  /-- `begin_i`, the source's `begin()` -/
  beginI : Bool
  /-- `in_valid`, the host offers a byte -/
  inValid : Bool
  /-- `in_data`, the byte offered -/
  inData : Byte
  /-- `evt_ready`, the host acknowledges the pending event -/
  evtReady : Bool
  /-- `rd_addr`, payload buffer read address -/
  rdAddr : Addr
deriving DecidableEq, Repr

/-- Every input port at 0: a host that does nothing (entry 3). -/
def Pins.quiet : Pins :=
  { rst := false, beginI := false, inValid := false, inData := 0#8, evtReady := false, rdAddr := 0#16 }

/-- The machine's state during one clock cycle. The last three fields are the model's own. -/
structure State where
  /-- `phase` (R10, R11): four bits, so the reserved codes are representable (entry 7) -/
  phase : PhaseCode
  /-- `exp_len`, the payload bytes the block will accept (R12) -/
  expLen : Word
  /-- `count`, the payload bytes appended so far (R13) -/
  count : Word
  /-- first name byte (R14) -/
  name0 : Byte
  /-- second name byte (R14) -/
  name1 : Byte
  /-- rolling checksum (R15) -/
  checksum : Byte
  /-- content class of the current block (R17) -/
  kind : BitVec 1
  /-- `payload_buffer` (R16) -/
  buffer : Memory
  /-- `evt_pending` (R18) -/
  evtPending : Bool
  /-- `evt_name` (R19) -/
  evtName : Word
  /-- `evt_len` (R19) -/
  evtLen : Word
  /-- `evt_kind` (R19) -/
  evtKind : BitVec 1
  /-- `evt_err` (R19, R150) -/
  evtErr : BitVec 2
  /-- the input ports in this cycle (R80; entry 3) -/
  pins : Pins
  /-- the input ports in the cycles to come (entry 3) -/
  coming : List Pins
  /-- what `rd_data` showed in the cycle that ended last (R88; entry 4) -/
  rdData : BufByte
deriving DecidableEq, Repr

/-- Why the block stops with a fault: it never does. "The block has no fatal error, no trap and no fault output."
(R4, R151) No constructor, so none can be raised. -/
inductive Fault where
deriving DecidableEq, Repr

/-- Why the model gives an instruction no meaning. -/
inductive Refusal where
  /-- raised by an arm of `exec` whose instruction has no meaning yet: no arm is left so. Safe: nothing is claimed. -/
  | notModelled (mnemonic : String)
deriving DecidableEq, Repr

/-- The state after a `RESET` edge (R171). `name0`, `name1` keep any power-on value: 0x00 here (entry 1). Nothing is
written in the buffer yet (entry 2). The host does nothing (entry 3); `rd_data` showed address 0 (entry 4). -/
def State.reset : State :=
  { phase := Phase.seek
    expLen := 0x0000#16
    count := 0x0000#16
    name0 := 0x00#8
    name1 := 0x00#8
    checksum := 0x00#8
    kind := Kind.text
    buffer := []
    evtPending := false
    evtName := 0x0000#16
    evtLen := 0x0000#16
    evtKind := 0#1
    evtErr := 0#2
    pins := Pins.quiet
    coming := []
    rdData := .powerOn 0x0000#16 }

end Sys2Proof.Machine
end

