-- ==== Sys2Proof/Machine/Flags.lean ====
section
/-! DEFINITION. The flag-like values of R24 and the arithmetic of R120: content class, rolling checksum, end of
payload. -/

namespace Sys2Proof.Machine

/-- Bit 7 of a payload byte (R120). -/
def highBit (b : Byte) : BitVec 1 := b.extractLsb' 7 1

/-- `kind <- kind OR b[7]`: sticky, 0 to 1 only (R17, R120). -/
def kindAfter (kind : BitVec 1) (b : Byte) : BitVec 1 := kind ||| highBit b

/-- `checksum <- (checksum + b) mod 256` (R15, R120). -/
def checksumAfter (checksum b : Byte) : Byte := checksum + b

/-- The phase after a payload byte: `TRAILER` when the old `count` plus one is `exp_len`, else `DATA` (R120). The
comparison is on 16 bits (entry 9). -/
def phaseAfterData (count expLen : Word) : PhaseCode :=
  if count + 1#16 = expLen then Phase.trailer else Phase.data

/-- The phase after the second name byte: `TRAILER` for an empty payload, else `DATA` (R113). -/
def phaseAfterName (expLen : Word) : PhaseCode :=
  if expLen = 0#16 then Phase.trailer else Phase.data

end Sys2Proof.Machine
end

