-- ==== Sys2Proof/Machine/Operands.lean ====
section
/-! DEFINITION. Operand assembly (R65) and byte order (R45, R46): how bytes of the stream become register values. -/

namespace Sys2Proof.Machine

/-- `{hi, lo}`: the first byte of the stream in bits 15:8 (00_scope §4; R45, R46). -/
def bigEndian (hi lo : Byte) : Word := hi ++ lo

/-- Bits 15:8 of a word. -/
def highByte (w : Word) : Byte := w.extractLsb' 8 8

/-- Bits 7:0 of a word. -/
def lowByte (w : Word) : Byte := w.extractLsb' 0 8

/-- `exp_len[15:8] <- b`, the low byte stays (R110). -/
def withHighByte (w : Word) (b : Byte) : Word := bigEndian b (lowByte w)

/-- The declared length `D = {exp_len[15:8], b}` (R65, R111). -/
def declaredLength (expLen : Word) (b : Byte) : Word := bigEndian (highByte expLen) b

/-- The payload length of a declared length, `(D + 1) mod 65536` (R62, R111). -/
def payloadLength (declared : Word) : Word := declared + 1#16

/-- The value on `evt_name`, `{name0, name1}` (R46, R130). -/
def packName (name0 name1 : Byte) : Word := bigEndian name0 name1

end Sys2Proof.Machine
end

