-- ==== Sys2Proof/Machine/Ops.lean ====
section
/-! DEFINITION. The named operations over the buffer, the registers and the ports that the meanings are written in:
buffer read and write (20_memory.md), `INIT()` (R20), `emit()` (R130, the stand-in for taking an exception, R155), the
acknowledge (R87, the stand-in for returning from one, R156), the ports (R80, R81). -/

namespace Sys2Proof.Machine

/-! ### The payload buffer -/

/-- The value of a buffer byte; a power-on byte is a free value (R51; entry 2). -/
def BufByte.value : BufByte → Byte
  | .written b => b
  | .powerOn a => Config.powerOnByte a

/-- The canonical form: addresses strictly rising and within the 65536 of R40. -/
def Memory.wf : Memory → Bool
  | [] => true
  | [c] => c.1 < 65536
  | c :: d :: rest => c.1 < d.1 && Memory.wf (d :: rest)

/-- The byte written at an address, if one was. -/
def Memory.find (m : Memory) (a : Nat) : Option Byte :=
  match m with
  | [] => none
  | c :: rest => if c.1 = a then some c.2 else Memory.find rest a

/-- `MemRead(a, 1)`: what the buffer holds at `a` (R44, R51). -/
def Memory.load (m : Memory) (a : Addr) : BufByte :=
  match m.find a.toNat with
  | some b => .written b
  | none => .powerOn a

/-- Writes the byte at address `a`, in address order. -/
def Memory.insert (m : Memory) (a : Nat) (b : Byte) : Memory :=
  match m with
  | [] => [(a, b)]
  | c :: rest =>
    if c.1 < a then c :: Memory.insert rest a b
    else if c.1 = a then (a, b) :: rest
    else (a, b) :: c :: rest

/-- `MemWrite(a, 1, b)` (R44). -/
def Memory.store (m : Memory) (a : Addr) (b : Byte) : Memory := m.insert a.toNat b

/-- The value of the byte at an address. -/
def Memory.byteAt (m : Memory) (a : Addr) : Byte := (m.load a).value

/-- The bytes at addresses `0 .. n-1`, in order (R27, R130). -/
def Memory.bytes (m : Memory) (n : Nat) : List Byte :=
  (List.range n).map fun k => m.byteAt (BitVec.ofNat 16 k)

/-- The sum of bytes modulo 256 (R121). -/
def byteSum (bs : List Byte) : Byte := bs.foldl checksumAfter 0#8

/-- The content class of a payload: `OBJECT` exactly when a byte is `>= 0x80` (R122). -/
def contentClass (bs : List Byte) : BitVec 1 :=
  if bs.any (fun b => 128 ≤ b.toNat) then Kind.object else Kind.text

/-! ### Register updates -/

/-- `phase <- p`. -/
def State.setPhase (s : State) (p : PhaseCode) : State := { s with phase := p }

/-- `exp_len <- v`. -/
def State.setExpLen (s : State) (v : Word) : State := { s with expLen := v }

/-- `name0 <- b`. -/
def State.setName0 (s : State) (b : Byte) : State := { s with name0 := b }

/-- `name1 <- b`. -/
def State.setName1 (s : State) (b : Byte) : State := { s with name1 := b }

/-- The buffer, `count`, `checksum` and `kind` after one payload byte; every right-hand side reads the old registers
(R120). -/
def State.append (s : State) (d : Byte) : State :=
  { s with
    buffer := s.buffer.store s.count d
    count := s.count + 1#16
    checksum := checksumAfter s.checksum d
    kind := kindAfter s.kind d }

/-- `INIT()`: the Decoder State at its initial configuration; the name, the buffer and the event port stay (R20). -/
def State.initDecoder (s : State) : State :=
  { s with
    phase := Phase.seek
    expLen := 0x0000#16
    count := 0x0000#16
    checksum := 0x00#8
    kind := Kind.text }

/-- The event registers take the current block's name, length, content class and the error class, and the event
becomes pending (R130, before `INIT()`). -/
def State.loadEvent (s : State) (e : ErrClass) : State :=
  { s with
    evtName := packName s.name0 s.name1
    evtLen := s.count
    evtKind := s.kind
    evtErr := e.code
    evtPending := true }

/-- `emit(e)`: report the block, then return to the initial configuration (R130, R155). -/
def State.emit (s : State) (e : ErrClass) : State := (s.loadEvent e).initDecoder

/-- `evt_pending <- 0`; the event registers stay (R87, R156). -/
def State.dropEvent (s : State) : State := { s with evtPending := false }

/-- The event registers at 0 (R83). -/
def State.clearEvent (s : State) : State :=
  { s with evtName := 0x0000#16, evtLen := 0x0000#16, evtKind := 0#1, evtErr := 0#2 }

/-- What `rd_data` shows. -/
def State.showRead (s : State) (v : BufByte) : State := { s with rdData := v }

/-- The next cycle: the host's next port values, all 0 when it has none left (entry 3). -/
def State.nextCycle (s : State) : State :=
  { s with pins := s.coming.headD Pins.quiet, coming := s.coming.tail }

/-! ### Ports -/

/-- The output ports in one cycle (R80). -/
structure PortsOut where
  /-- `in_ready` -/
  inReady : Bool
  /-- `evt_valid` -/
  evtValid : Bool
  /-- `evt_name` -/
  evtName : Word
  /-- `evt_len` -/
  evtLen : Word
  /-- `evt_kind` -/
  evtKind : BitVec 1
  /-- `evt_err` -/
  evtErr : BitVec 2
  /-- `rd_data` -/
  rdData : BufByte
deriving DecidableEq, Repr

/-- The output ports, combinational in the registers and this cycle's inputs (R81). -/
def State.outputs (s : State) : PortsOut :=
  { inReady := !s.pins.rst && !s.pins.beginI && !s.evtPending
    evtValid := s.evtPending
    evtName := s.evtName
    evtLen := s.evtLen
    evtKind := s.evtKind
    evtErr := s.evtErr
    rdData := s.buffer.load s.pins.rdAddr }

/-- The byte accepted in this cycle: the offered one, exactly when `in_valid` and `in_ready` are both 1 (R81). -/
def State.accepted (s : State) : Option Byte :=
  if s.pins.inValid && s.outputs.inReady then some s.pins.inData else none

/-- A flag as one bit. -/
def bit (b : Bool) : BitVec 1 := BitVec.ofBool b

/-- The port command key `P = {rst, begin_i, evt_pending, evt_ready, in_valid}` (R64). -/
def State.portKey (s : State) : PortKey :=
  bit s.pins.rst ++ bit s.pins.beginI ++ bit s.evtPending ++ bit s.pins.evtReady ++ bit s.pins.inValid

/-- The port operation of this cycle (R64, R82). -/
def State.command (s : State) : Instr := decodePort s.portKey s.pins.inData

/-- The decode key of a byte in the present phase (R60). -/
def State.tokenKey (s : State) (b : Byte) : TokenKey := Sys2Proof.tokenKey s.phase b

/-- The byte token that an accepted byte selects (R60, R90). -/
def State.token (s : State) (b : Byte) : Instr := decodeToken (s.tokenKey b) s.checksum

/-- Runs a second operation on the state the first one gives; a stop of the first stops both. -/
def andThen (o : Host.Outcome State Fault Refusal) (f : State → Host.Outcome State Fault Refusal) :
    Host.Outcome State Fault Refusal :=
  match o with
  | .next s => f s
  | .fault r => .fault r
  | .refused r => .refused r

end Sys2Proof.Machine
end

