-- ==== Sys2Proof/Machine/Header.lean ====
section
/-! DEFINITION. The header: two length bytes and two name bytes (42_header.md). Every byte value is data. -/

namespace Sys2Proof.Machine

/-- `LEN_HI_LOAD`: the high byte of `exp_len` (R110). -/
def execLenHiLoad (h : Byte) (s : State) : Host.Outcome State Fault Refusal :=
  .next ((s.setExpLen (withHighByte s.expLen h)).setPhase Phase.lenLo)

/-- `LEN_LO_LOAD`: the declared length is complete; one is added, modulo 65536 (R111). -/
def execLenLoLoad (l : Byte) (s : State) : Host.Outcome State Fault Refusal :=
  .next ((s.setExpLen (payloadLength (declaredLength s.expLen l))).setPhase Phase.name1)

/-- `NAME1_LOAD` (R112). -/
def execName1Load (n : Byte) (s : State) : Host.Outcome State Fault Refusal :=
  .next ((s.setName0 n).setPhase Phase.name2)

/-- `NAME2_LOAD`: then the payload, or the trailer when the payload is empty (R113). -/
def execName2Load (n : Byte) (s : State) : Host.Outcome State Fault Refusal :=
  .next ((s.setName1 n).setPhase (phaseAfterName s.expLen))

end Sys2Proof.Machine
end

