-- ==== Sys2Proof/Machine/Payload.lean ====
section
/-! DEFINITION. The payload (43_payload.md). -/

namespace Sys2Proof.Machine

/-- `DATA_APPEND`: append the byte at address `count`, count it, add it to the checksum, keep the content class, and
leave `DATA` on the byte that makes `count` reach `exp_len` (R120). -/
def execDataAppend (d : Byte) (s : State) : Host.Outcome State Fault Refusal :=
  .next ((s.append d).setPhase (phaseAfterData s.count s.expLen))

end Sys2Proof.Machine
end

