-- ==== Sys2Proof/Machine/Sync.lean ====
section
/-! DEFINITION. Synchronisation: the byte tokens of the phases `SEEK` and `SYNC`, and of the reserved phase codes,
which act as `SEEK` (41_sync.md; R11). Each writes `phase` alone. -/

namespace Sys2Proof.Machine

/-- `SEEK_SYNC` (R100). -/
def execSeekSync (s : State) : Host.Outcome State Fault Refusal := .next (s.setPhase Phase.sync)

/-- `SEEK_NOISE`: the byte is discarded (R101). -/
def execSeekNoise (_b : Byte) (s : State) : Host.Outcome State Fault Refusal := .next (s.setPhase Phase.seek)

/-- `SYNC_MORE` (R102). -/
def execSyncMore (s : State) : Host.Outcome State Fault Refusal := .next (s.setPhase Phase.sync)

/-- `SYNC_ESC` (R103). -/
def execSyncEsc (s : State) : Host.Outcome State Fault Refusal := .next (s.setPhase Phase.lenHi)

/-- `SYNC_DESYNC`: the byte is consumed and not reconsidered (R104). -/
def execSyncDesync (_b : Byte) (s : State) : Host.Outcome State Fault Refusal := .next (s.setPhase Phase.seek)

/-- `RSVD_AS_SEEK_SYNC`: R100 in a reserved phase (R11). -/
def execRsvdAsSeekSync (_p : PhaseCode) (s : State) : Host.Outcome State Fault Refusal :=
  .next (s.setPhase Phase.sync)

/-- `RSVD_AS_SEEK_NOISE`: R101 in a reserved phase (R11). -/
def execRsvdAsSeekNoise (_p : PhaseCode) (_b : Byte) (s : State) : Host.Outcome State Fault Refusal :=
  .next (s.setPhase Phase.seek)

end Sys2Proof.Machine
end

