-- ==== Sys2Proof/Machine/Trailer.lean ====
section
/-! DEFINITION. End marker and checksum (44_trailer.md). The ending byte is consumed and never reconsidered (R177). -/

namespace Sys2Proof.Machine

/-- `TRAILER_OK`: the end marker is present; no event yet (R131). -/
def execTrailerOk (s : State) : Host.Outcome State Fault Refusal := .next (s.setPhase Phase.cksum)

/-- `TRAILER_ERR`: a framing error, reported at once (R132). -/
def execTrailerErr (_b : Byte) (s : State) : Host.Outcome State Fault Refusal := .next (s.emit .trailer)

/-- `CKSUM_OK`: the block is reported without error (R133). -/
def execCksumOk (_c : Byte) (s : State) : Host.Outcome State Fault Refusal := .next (s.emit .none)

/-- `CKSUM_ERR`: the block is reported with a checksum error (R134). -/
def execCksumErr (_c : Byte) (s : State) : Host.Outcome State Fault Refusal := .next (s.emit .checksum)

end Sys2Proof.Machine
end

