-- ==== Sys2Proof/Machine/Feed.lean ====
section
/-! DEFINITION. `FEED_BYTE(b)`, the source's `feed(byte)` (R90). -/

namespace Sys2Proof.Machine

/-- Decodes `b` against the key `{phase, b}` and runs exactly the one byte rule it selects (R60, R61, R90). -/
def feedByte (b : Byte) (s : State) : Host.Outcome State Fault Refusal :=
  match selectRow (s.tokenKey b) s.checksum with
  | .seekSync => execSeekSync s
  | .seekNoise => execSeekNoise b s
  | .syncMore => execSyncMore s
  | .syncEsc => execSyncEsc s
  | .syncDesync => execSyncDesync b s
  | .lenHiLoad => execLenHiLoad b s
  | .lenLoLoad => execLenLoLoad b s
  | .name1Load => execName1Load b s
  | .name2Load => execName2Load b s
  | .dataAppend => execDataAppend b s
  | .trailerOk => execTrailerOk s
  | .trailerErr => execTrailerErr b s
  | .cksumOk => execCksumOk b s
  | .cksumErr => execCksumErr b s
  | .rsvdAsSeekSync => execRsvdAsSeekSync s.phase s
  | .rsvdAsSeekNoise => execRsvdAsSeekNoise s.phase b s

end Sys2Proof.Machine
end

