-- ==== Sys2Proof/Machine/Ports.lean ====
section
/-! DEFINITION. The port operations (40_interface.md section 2): one of `RESET`, `BEGIN`, `EVT_ACK`, `EVT_HOLD`,
`FEED`, `IDLE` per cycle, and `BUF_READ` in every cycle. -/

namespace Sys2Proof.Machine

/-- `RESET`: `INIT()`, no event pending, the event registers 0; the name and the buffer stay (R83). -/
def execReset (s : State) : Host.Outcome State Fault Refusal := .next s.initDecoder.dropEvent.clearEvent

/-- `BEGIN`: `INIT()` and a pending event is dropped; the event registers stay (R84, R175). -/
def execBeginStream (s : State) : Host.Outcome State Fault Refusal := .next s.initDecoder.dropEvent

/-- `EVT_ACK`: the pending event is acknowledged (R87, R156). -/
def execEvtAck (s : State) : Host.Outcome State Fault Refusal := .next s.dropEvent

/-- `EVT_HOLD`: no register changes (R86). -/
def execEvtHold (s : State) : Host.Outcome State Fault Refusal := .next s

/-- `FEED`: the byte on `in_data` is accepted (R85). -/
def execFeed (b : Byte) (s : State) : Host.Outcome State Fault Refusal := feedByte b s

/-- `IDLE`: no register changes (R89). -/
def execIdle (s : State) : Host.Outcome State Fault Refusal := .next s

/-- `BUF_READ`: `rd_data = payload_buffer[rd_addr]`; no state of the block changes (R88; entry 4). -/
def execBufRead (a : Addr) (s : State) : Host.Outcome State Fault Refusal := .next (s.showRead (s.buffer.load a))

end Sys2Proof.Machine
end

