-- ==== Sys2Proof/Machine/Dispatch.lean ====
section
/-! DEFINITION. One arm per instruction. -/

namespace Sys2Proof.Machine

def exec (i : Instr) (s : State) : Host.Outcome State Fault Refusal :=
  match i with
  | .seekSync => Sys2Proof.Machine.execSeekSync s
  | .seekNoise b => Sys2Proof.Machine.execSeekNoise b s
  | .syncMore => Sys2Proof.Machine.execSyncMore s
  | .syncEsc => Sys2Proof.Machine.execSyncEsc s
  | .syncDesync b => Sys2Proof.Machine.execSyncDesync b s
  | .lenHiLoad h => Sys2Proof.Machine.execLenHiLoad h s
  | .lenLoLoad l => Sys2Proof.Machine.execLenLoLoad l s
  | .name1Load n => Sys2Proof.Machine.execName1Load n s
  | .name2Load n => Sys2Proof.Machine.execName2Load n s
  | .dataAppend d => Sys2Proof.Machine.execDataAppend d s
  | .trailerOk => Sys2Proof.Machine.execTrailerOk s
  | .trailerErr b => Sys2Proof.Machine.execTrailerErr b s
  | .cksumOk c => Sys2Proof.Machine.execCksumOk c s
  | .cksumErr c => Sys2Proof.Machine.execCksumErr c s
  | .rsvdAsSeekSync p => Sys2Proof.Machine.execRsvdAsSeekSync p s
  | .rsvdAsSeekNoise p b => Sys2Proof.Machine.execRsvdAsSeekNoise p b s
  | .reset => Sys2Proof.Machine.execReset s
  | .beginStream => Sys2Proof.Machine.execBeginStream s
  | .evtAck => Sys2Proof.Machine.execEvtAck s
  | .evtHold => Sys2Proof.Machine.execEvtHold s
  | .feed b => Sys2Proof.Machine.execFeed b s
  | .idle => Sys2Proof.Machine.execIdle s
  | .bufRead a => Sys2Proof.Machine.execBufRead a s

end Sys2Proof.Machine
end

