-- ==== Sys2Proof/Machine/Fetch.lean ====
section
/-! DEFINITION. Placing an instruction where the block takes its next one: the block loads no program, so the word of
an opcode-table row stands on the input ports and in the registers that are part of its key (entry 5). -/

namespace Sys2Proof.Machine

/-- The ports that offer byte `b` and ask for nothing else (R85). -/
def Pins.offer (p : Pins) (b : Byte) : Pins :=
  { p with rst := false, beginI := false, inValid := true, inData := b }

/-- The ports of port command key `p`, but for `evt_pending`, which is a register (R64). -/
def Pins.withPortKey (pins : Pins) (p : PortKey) (inData : Byte) : Pins :=
  { pins with
    rst := p.getLsbD 4
    beginI := p.getLsbD 3
    evtReady := p.getLsbD 1
    inValid := p.getLsbD 0
    inData := inData }

/-- The state whose next step takes the code `c`. A byte token needs its phase, its byte offered and no event pending;
one of phase `CKSUM` also needs the checksum that its row was decoded with, 0x00 (entry 6). A port command needs its
key; a read needs its address. -/
def State.place (s : State) (c : Code) : State :=
  match c with
  | .token k =>
    { s with
      phase := tokenPhase k
      checksum := if tokenPhase k = Phase.cksum then 0#8 else s.checksum
      evtPending := false
      pins := s.pins.offer (tokenByte k) }
  | .port p d => { s with evtPending := p.getLsbD 2, pins := s.pins.withPortKey p d }
  | .read a => { s with pins := { s.pins with rdAddr := a } }

end Sys2Proof.Machine
end

