-- ==== Sys2Proof/Machine/Step.lean ====
section
/-! DEFINITION. One step is one rising clock edge (R82). -/

namespace Sys2Proof.Machine

/-- `STEP()`: the read port shows the byte the buffer held before the edge, the one operation the port command key
selects runs, and the next cycle's port values stand on the inputs (R82, R88, R50; entries 3, 10). -/
def step (s : State) : Host.Outcome State Fault Refusal :=
  andThen (exec (.bufRead s.pins.rdAddr) s) fun shown =>
    andThen (exec shown.command shown) fun edge => .next edge.nextCycle

/-- `s` with the `nbits`-bit opcode-table word `w` as what the next step runs. A word the decoder refuses is placed
without the bits its key has no room for. -/
def State.withFetchWord (s : State) (nbits w : Nat) : State :=
  if nbits = 0 then s.place (.read 0#16)
  else if nbits ≤ 8 then s.place (.port (BitVec.ofNat 5 w) 0#8)
  else s.place (.token (BitVec.ofNat 12 w))

end Sys2Proof.Machine
end

