-- ==== Sys2Proof/Machine/Stream.lean ====
section
/-! DEFINITION. Block Events, the byte-level machine `feed` that the cycle-level block refines (R92), its loop
`feed_all` (R91), a run of cycles with what it accepts and emits (R94), and the stream macros of R70. Nothing here is
part of a step. -/

namespace Sys2Proof.Machine

/-! ### Block Events -/

/-- A Block Event: name, length, payload, content class, error class (R92, R130). -/
structure Event where
  name0 : Byte
  name1 : Byte
  len : Word
  payload : List Byte
  kind : BitVec 1
  err : BitVec 2
deriving DecidableEq, Repr

/-- The event on the event port, its payload as the read port gives it (R50, R130; entry 13). -/
def State.pendingEvent (s : State) : Option Event :=
  if s.evtPending then
    some
      { name0 := highByte s.evtName
        name1 := lowByte s.evtName
        len := s.evtLen
        payload := s.buffer.bytes s.evtLen.toNat
        kind := s.evtKind
        err := s.evtErr }
  else none

/-- The event that the edge from `s` to `t` emits: one that is pending after it and was not before (R18, R155). -/
def State.emittedTo (s t : State) : Option Event :=
  if s.evtPending then none else t.pendingEvent

/-! ### The byte-level machine -/

/-- The byte-level state: the Decoder State of R10 to R17. -/
structure Decoder where
  phase : PhaseCode
  expLen : Word
  count : Word
  name0 : Byte
  name1 : Byte
  checksum : Byte
  kind : BitVec 1
  buffer : Memory
deriving DecidableEq, Repr

/-- The Decoder State within the block's state. -/
def State.decoder (s : State) : Decoder :=
  { phase := s.phase
    expLen := s.expLen
    count := s.count
    name0 := s.name0
    name1 := s.name1
    checksum := s.checksum
    kind := s.kind
    buffer := s.buffer }

/-- A block that holds the given Decoder State, no event, and a quiet host. -/
def Decoder.toState (d : Decoder) : State :=
  { State.reset with
    phase := d.phase
    expLen := d.expLen
    count := d.count
    name0 := d.name0
    name1 := d.name1
    checksum := d.checksum
    kind := d.kind
    buffer := d.buffer }

/-- `INIT()` on the Decoder State (R20). -/
def Decoder.init (d : Decoder) : Decoder := d.toState.initDecoder.decoder

/-- `feed : DecoderState x Byte -> DecoderState x Option Event` (R90, R92). -/
def Decoder.feed (d : Decoder) (b : Byte) : Decoder × Option Event :=
  match feedByte b d.toState with
  | .next t => (t.decoder, t.pendingEvent)
  | .fault _ => (d, none)
  | .refused _ => (d, none)

/-- `feed_all`: the bytes one `feed` at a time, in order (R91). -/
def Decoder.feedAll : Decoder → List Byte → Decoder × List Event
  | d, [] => (d, [])
  | d, b :: bs =>
    let one := d.feed b
    let rest := Decoder.feedAll one.1 bs
    (rest.1, one.2.toList ++ rest.2)

/-! ### Runs of cycles -/

/-- What one cycle means at the byte level. -/
inductive StreamOp where
  /-- `RESET` or `BEGIN`: `feed` restarts from `INIT()` (R92) -/
  | restart
  /-- a byte is accepted (R81) -/
  | byte (b : Byte)
deriving DecidableEq, Repr

/-- The byte-level meaning of the present cycle; none for a cycle that holds, acknowledges or idles. -/
def State.streamOp (s : State) : Option StreamOp :=
  if s.pins.rst || s.pins.beginI then some .restart else s.accepted.map .byte

/-- One cycle of the byte-level machine. -/
def Decoder.cycle (d : Decoder) : Option StreamOp → Decoder × Option Event
  | none => (d, none)
  | some .restart => (d.init, none)
  | some (.byte b) => d.feed b

/-- The byte-level machine over the cycles of a run: the event each cycle emits, in order. -/
def Decoder.cycles : Decoder → List (Option StreamOp) → Decoder × List (Option Event)
  | d, [] => (d, [])
  | d, op :: ops =>
    let one := d.cycle op
    let rest := Decoder.cycles one.1 ops
    (rest.1, one.2 :: rest.2)

/-- `n` cycles of the block: the last state, what each cycle means at the byte level, and the event each emits
(R94). None if a step stops. -/
def runCycles : Nat → State → Option (State × List (Option StreamOp) × List (Option Event))
  | 0, s => some (s, [], [])
  | n + 1, s =>
    match step s with
    | .next t =>
      match runCycles n t with
      | some (u, ops, events) => some (u, s.streamOp :: ops, s.emittedTo t :: events)
      | none => none
    | .fault _ => none
    | .refused _ => none

/-! ### Streams -/

/-- The declared length of an `L`-byte payload, `(L - 1) mod 65536` (R70). -/
def declaredFor (payload : List Byte) : Word := BitVec.ofNat 16 payload.length - 1#16

/-- A frame on the wire with sync run `sync`, end marker byte `e` and checksum byte `c` (R62). -/
def frameWith (sync : Nat) (n0 n1 : Byte) (payload : List Byte) (e c : Byte) : List Byte :=
  List.replicate sync Config.sync ++
    [Config.esc, highByte (declaredFor payload), lowByte (declaredFor payload), n0, n1] ++ payload ++ [e, c]

/-- `FRAME` without its padding: the right end marker and checksum (R70). -/
def frame (sync : Nat) (n0 n1 : Byte) (payload : List Byte) : List Byte :=
  frameWith sync n0 n1 payload Config.endMark (byteSum payload)

/-- The event of a block with the given payload and error class (R136). -/
def blockEvent (n0 n1 : Byte) (payload : List Byte) (e : ErrClass) : Event :=
  { name0 := n0
    name1 := n1
    len := BitVec.ofNat 16 payload.length
    payload := payload
    kind := contentClass payload
    err := e.code }

/-- A Decoder State that hunts for a sync run with everything `INIT()` sets at its initial value (R20, R26). The name
and the buffer are arbitrary. -/
def Decoder.seeking (d : Decoder) : Prop :=
  d.phase = Phase.seek ∧ d.expLen = 0#16 ∧ d.count = 0#16 ∧ d.checksum = 0#8 ∧ d.kind = Kind.text

/-- One block of a stream: a frame, perhaps with a wrong end marker or checksum byte, and the bytes after it. -/
structure StreamBlock where
  sync : Nat
  n0 : Byte
  n1 : Byte
  payload : List Byte
  endByte : Byte
  cksumByte : Byte
  pad : List Byte
deriving DecidableEq, Repr

end Sys2Proof.Machine
end

