-- ==== Sys2Proof/Safety.lean ====
section
/-! DEFINITION. What holds of a block that runs from reset: the invariants of 10_state.md section 7, with the legal
codes (R11, R150), the buffer's canonical form, and the address that is never written (R52). And what a stop would
be: there is none (R151). -/

namespace Sys2Proof.Machine

/-- Inside the payload or past it: the phases in which `count` may be above 0 (R25). -/
def State.inBlock (s : State) : Prop :=
  s.phase = Phase.data ∨ s.phase = Phase.trailer ∨ s.phase = Phase.cksum

/-- The invariants that every state reachable from reset meets (R11, R25 to R28, R52, R150). -/
structure State.Legal (s : State) : Prop where
  /-- `phase` holds one of the nine codes (R10, R11) -/
  phase_legal : s.phase.toNat ≤ 8
  /-- `count <= exp_len` in the block (R25) -/
  count_le : s.inBlock → s.count.toNat ≤ s.expLen.toNat
  /-- in the other phases nothing is counted, summed or classed (R25, R26) -/
  before_payload : ¬s.inBlock → s.count = 0#16 ∧ s.checksum = 0#8 ∧ s.kind = Kind.text
  /-- no length before `LEN_LO` (R26) -/
  no_length : s.phase = Phase.seek ∨ s.phase = Phase.sync ∨ s.phase = Phase.lenHi → s.expLen = 0#16
  /-- half a length in `LEN_LO` (R26, R29) -/
  half_length : s.phase = Phase.lenLo → lowByte s.expLen = 0#8
  /-- the checksum reflects exactly the payload bytes appended so far (R27) -/
  checksum_sum : s.inBlock → s.checksum = byteSum (s.buffer.bytes s.count.toNat)
  /-- the content class reflects exactly the payload bytes appended so far (R27) -/
  kind_class : s.inBlock → s.kind = contentClass (s.buffer.bytes s.count.toNat)
  /-- the payload is complete in `TRAILER` and `CKSUM` (R27) -/
  payload_complete : s.phase = Phase.trailer ∨ s.phase = Phase.cksum → s.count = s.expLen
  /-- and is not in `DATA` (R27) -/
  payload_open : s.phase = Phase.data → s.count.toNat < s.expLen.toNat
  /-- an event is pending only in `SEEK` (R28) -/
  pending_seek : s.evtPending = true → s.phase = Phase.seek
  /-- a pending event's class is its payload's (R28, R122) -/
  pending_class : s.evtPending = true → s.evtKind = contentClass (s.buffer.bytes s.evtLen.toNat)
  /-- the reserved error code is never written (R150) -/
  err_legal : s.evtErr ≠ 3#2
  /-- address 0xFFFF is never written (R52) -/
  top_unwritten : s.buffer.load 0xFFFF#16 = .powerOn 0xFFFF#16
  /-- the buffer is in canonical form -/
  buffer_wf : s.buffer.wf = true

/-- A step that answers a next state: not a fault, not a refusal (R4, R151). -/
def State.runs (s : State) : Prop := ∃ t, step s = .next t

end Sys2Proof.Machine
end

