-- ==== Sys2Proof/Certificates/Slice0/Obligations.lean ====
section
/-! DEFINITION. The statements about the model, from the numbered rules of spec/. -/

open Sys2Proof Sys2Proof.Machine

/-! ### Encoding -/

/-- R60, R61, R64: no operand of an encoding is dropped. For every instruction and every operand its row admits,
decoding its encoding gives it back; rows 13 and 14 under their state condition on the checksum. -/
def Obligations.DecodeEncodeRoundTrip : Prop :=
  ∀ (i : Instr) (checksum : Byte), i.wellFormed = true → i.stateCondition checksum = true →
    decode checksum (encode i) = i

/-- R60, R66: each of the 4096 keys is the encoding of exactly the well-formed instruction it decodes to. -/
def Obligations.EveryTokenKeyIsAnEncoding : Prop :=
  ∀ (k : TokenKey) (checksum : Byte),
    encode (decodeToken k checksum) = .token k ∧
    (decodeToken k checksum).wellFormed = true ∧
    (decodeToken k checksum).stateCondition checksum = true

/-- R61: the rows are tried in order and the first that matches selects the rule; there always is one. -/
def Obligations.FirstMatchingRowSelects : Prop :=
  ∀ (k : TokenKey) (checksum : Byte),
    ∃ before after, TokenRow.order = before ++ selectRow k checksum :: after ∧
      (selectRow k checksum).hits k checksum = true ∧ ∀ r ∈ before, r.hits k checksum = false

/-- R90: the mask-and-match table decodes as the phase-and-byte case split of `FEED_BYTE` says. -/
def Obligations.TokenDecodeFollowsPhases : Prop :=
  ∀ (p : PhaseCode) (b checksum : Byte),
    decodeToken (tokenKey p b) checksum =
      if p = 0x0#4 then (if b = 0x16#8 then .seekSync else .seekNoise b)
      else if p = 0x1#4 then
        (if b = 0x16#8 then .syncMore else if b = 0x1B#8 then .syncEsc else .syncDesync b)
      else if p = 0x2#4 then .lenHiLoad b
      else if p = 0x3#4 then .lenLoLoad b
      else if p = 0x4#4 then .name1Load b
      else if p = 0x5#4 then .name2Load b
      else if p = 0x6#4 then .dataAppend b
      else if p = 0x7#4 then (if b = 0x17#8 then .trailerOk else .trailerErr b)
      else if p = 0x8#4 then (if b = checksum then .cksumOk b else .cksumErr b)
      else (if b = 0x16#8 then .rsvdAsSeekSync p else .rsvdAsSeekNoise p b)

/-- R61, R64 and the vectors V15, V37 of 95_test_vectors: a few keys written out from the encoding tables. -/
def Obligations.SpecWordsDecode : Prop :=
  decodeToken 0b000000010110#12 0#8 = .seekSync ∧
  decodeToken 0b000000011011#12 0#8 = .seekNoise 0x1B#8 ∧
  decodeToken 0b000100011011#12 0#8 = .syncEsc ∧
  decodeToken 0b001000010010#12 0#8 = .lenHiLoad 0x12#8 ∧
  decodeToken 0b011010000000#12 0#8 = .dataAppend 0x80#8 ∧
  decodeToken 0b011100010111#12 0#8 = .trailerOk ∧
  decodeToken 0b100000010110#12 0x16#8 = .cksumOk 0x16#8 ∧
  decodeToken 0b100100010110#12 0#8 = .rsvdAsSeekSync 0x9#4 ∧
  decodePort 0b10111#5 0#8 = .reset ∧
  decodePort 0b00110#5 0#8 = .evtAck ∧
  decodePort 0b00011#5 0x41#8 = .feed 0x41#8

/-! ### One cycle -/

/-- R82: a step runs the instruction that the cycle's port key decodes to, on the state in which the read port shows
its byte; around it stand only `BUF_READ` and the host's next port values. When a byte is accepted, that is the byte
token its key decodes to (R85, R90). -/
def Obligations.StepRunsDecodedInstruction : Prop :=
  ∀ s t : State,
    (exec (decodePort s.portKey s.pins.inData) { s with rdData := s.buffer.load s.pins.rdAddr } = .next t →
      step s = .next t.nextCycle) ∧
    (∀ b, s.accepted = some b →
      exec (decodeToken (s.phase ++ b) s.checksum) { s with rdData := s.buffer.load s.pins.rdAddr } = .next t →
      step s = .next t.nextCycle)

/-- R82, R153: exactly one operation per cycle, in the priority `rst`, `begin_i`, event port, input port; and a byte
is accepted exactly in a `FEED` cycle (R81). -/
def Obligations.OneOperationPerCycle : Prop :=
  ∀ s : State,
    (s.command =
      if s.pins.rst then .reset
      else if s.pins.beginI then .beginStream
      else if s.evtPending then (if s.pins.evtReady then .evtAck else .evtHold)
      else if s.pins.inValid then .feed s.pins.inData
      else .idle) ∧
    (∀ t, exec s.command { s with rdData := s.buffer.load s.pins.rdAddr } = .next t → step s = .next t.nextCycle) ∧
    (∀ b, s.accepted = some b ↔ s.command = .feed b)

/-- R66: no byte token and no port command is illegal; each has an effect, and none of them faults. So every step
answers a next state. -/
def Obligations.NoInstructionStops : Prop :=
  (∀ (k : TokenKey) (checksum : Byte) (s : State), ∃ t, exec (decodeToken k checksum) s = .next t) ∧
  (∀ (p : PortKey) (d : Byte) (s : State), ∃ t, exec (decodePort p d) s = .next t) ∧
  (∀ s : State, s.runs)

/-- The host's interface (entry 5): an opcode-table word placed where the block takes its next instruction is decoded
and run by the very next step. The model's own convention, not a rule of the spec. -/
def Obligations.PlacedWordIsRunNext : Prop :=
  ∀ (s t : State) (nbits w : Nat) (i : Instr), 0 < nbits → decodeTableWord nbits w = some i →
    exec i
      { s.withFetchWord nbits w with
        rdData := (s.withFetchWord nbits w).buffer.load (s.withFetchWord nbits w).pins.rdAddr } = .next t →
    step (s.withFetchWord nbits w) = .next t.nextCycle

/-! ### Port operations -/

/-- R83, R171: `RESET` puts every register at its reset value but the name and the buffer, which stay; it drops a
pending event, and a byte offered with it is not accepted. -/
def Obligations.ResetOperation : Prop :=
  ∀ s : State,
    exec .reset s =
      .next
        { s with
          phase := 0x0#4, expLen := 0#16, count := 0#16, checksum := 0#8, kind := 0#1, evtPending := false,
          evtName := 0#16, evtLen := 0#16, evtKind := 0#1, evtErr := 0#2 } ∧
    (s.pins.rst = true →
      s.accepted = none ∧
      step s =
        .next
          (State.nextCycle
            { s with
              phase := 0x0#4, expLen := 0#16, count := 0#16, checksum := 0#8, kind := 0#1, evtPending := false,
              evtName := 0#16, evtLen := 0#16, evtKind := 0#1, evtErr := 0#2,
              rdData := s.buffer.load s.pins.rdAddr }))

/-- R84, R175, R176: `BEGIN` runs `INIT()` and drops a pending event; the event registers, the name and the buffer
stay, and a byte offered with it is not accepted. -/
def Obligations.BeginOperation : Prop :=
  ∀ s : State,
    exec .beginStream s =
      .next
        { s with
          phase := 0x0#4, expLen := 0#16, count := 0#16, checksum := 0#8, kind := 0#1, evtPending := false } ∧
    (s.pins.rst = false → s.pins.beginI = true →
      s.accepted = none ∧
      step s =
        .next
          (State.nextCycle
            { s with
              phase := 0x0#4, expLen := 0#16, count := 0#16, checksum := 0#8, kind := 0#1, evtPending := false,
              rdData := s.buffer.load s.pins.rdAddr }))

/-- R86, R87: with an event pending, `evt_ready` decides between holding everything and clearing `evt_pending` alone;
an offered byte is accepted in neither. -/
def Obligations.EventPortOperations : Prop :=
  ∀ s : State,
    exec .evtHold s = .next s ∧
    exec .evtAck s = .next { s with evtPending := false } ∧
    (s.pins.rst = false → s.pins.beginI = false → s.evtPending = true →
      s.accepted = none ∧
      step s =
        .next
          (State.nextCycle
            { s with
              evtPending := !s.pins.evtReady
              rdData := s.buffer.load s.pins.rdAddr }))

/-- R89: with nothing asked, pending or offered, no register changes. -/
def Obligations.IdleOperation : Prop :=
  ∀ s : State,
    exec .idle s = .next s ∧
    (s.pins.rst = false → s.pins.beginI = false → s.evtPending = false → s.pins.inValid = false →
      step s = .next (State.nextCycle { s with rdData := s.buffer.load s.pins.rdAddr }))

/-- R88, R50: a read changes no register and no buffer byte, at any address; in every cycle, one that writes the same
address included, `rd_data` shows what the buffer held before the edge. -/
def Obligations.BufferReadOperation : Prop :=
  (∀ (s : State) (a : Addr), exec (.bufRead a) s = .next { s with rdData := s.buffer.load a }) ∧
  (∀ s t : State, step s = .next t → t.rdData = s.outputs.rdData ∧ t.rdData = s.buffer.load s.pins.rdAddr)

/-- R85, R90: `FEED` runs exactly the byte rule that `{phase, b}` selects, it always completes, and it emits at most
one event, only while none is pending. -/
def Obligations.FeedRunsSelectedToken : Prop :=
  ∀ (s : State) (b : Byte),
    exec (.feed b) s = exec (decodeToken (s.phase ++ b) s.checksum) s ∧
    (∃ t, exec (.feed b) s = .next t) ∧
    (s.accepted = some b → s.evtPending = false ∧ s.command = .feed b)

/-! ### Byte tokens -/

/-- R100, R101, R11: in `SEEK`, and in a reserved phase, a sync byte gives `SYNC`, any other byte gives `SEEK`, and
nothing else changes. -/
def Obligations.SeekTokens : Prop :=
  ∀ s : State,
    exec .seekSync s = .next { s with phase := 0x1#4 } ∧
    (∀ b, exec (.seekNoise b) s = .next { s with phase := 0x0#4 }) ∧
    (∀ p, exec (.rsvdAsSeekSync p) s = .next { s with phase := 0x1#4 }) ∧
    (∀ p b, exec (.rsvdAsSeekNoise p b) s = .next { s with phase := 0x0#4 }) ∧
    (∀ b, s.accepted = some b → s.phase = 0x0#4 ∨ 9 ≤ s.phase.toNat →
      step s =
        .next
          (State.nextCycle
            { s with
              phase := if b = 0x16#8 then 0x1#4 else 0x0#4
              rdData := s.buffer.load s.pins.rdAddr }))

/-- R102, R103, R104: in `SYNC`, a sync byte stays, `ESC` starts the header, any other byte gives `SEEK`, and nothing
else changes. -/
def Obligations.SyncTokens : Prop :=
  ∀ s : State,
    exec .syncMore s = .next { s with phase := 0x1#4 } ∧
    exec .syncEsc s = .next { s with phase := 0x2#4 } ∧
    (∀ b, exec (.syncDesync b) s = .next { s with phase := 0x0#4 }) ∧
    (∀ b, s.accepted = some b → s.phase = 0x1#4 →
      step s =
        .next
          (State.nextCycle
            { s with
              phase := if b = 0x16#8 then 0x1#4 else if b = 0x1B#8 then 0x2#4 else 0x0#4
              rdData := s.buffer.load s.pins.rdAddr }))

/-- R110, R111: the length bytes are big-endian; the first sets the high byte of `exp_len`, the second completes the
declared length and stores it plus one, modulo 65536; only `exp_len` and `phase` change. -/
def Obligations.LengthTokens : Prop :=
  ∀ s : State,
    (∀ h : Byte, ∃ t,
      exec (.lenHiLoad h) s = .next t ∧
      t.expLen.toNat = 256 * h.toNat + s.expLen.toNat % 256 ∧
      t = { s with phase := 0x3#4, expLen := t.expLen } ∧
      (s.accepted = some h → s.phase = 0x2#4 →
        step s = .next (State.nextCycle { t with rdData := s.buffer.load s.pins.rdAddr }))) ∧
    (∀ l : Byte, ∃ t,
      exec (.lenLoLoad l) s = .next t ∧
      t.expLen.toNat = (256 * (s.expLen.toNat / 256) + l.toNat + 1) % 65536 ∧
      t = { s with phase := 0x4#4, expLen := t.expLen } ∧
      (s.accepted = some l → s.phase = 0x3#4 →
        step s = .next (State.nextCycle { t with rdData := s.buffer.load s.pins.rdAddr })))

/-- R112, R113: the name bytes go to `name0` and `name1` unchanged; after the second the payload follows, or the
trailer when `exp_len` is 0; nothing else changes. -/
def Obligations.NameTokens : Prop :=
  ∀ (s : State) (n : Byte),
    exec (.name1Load n) s = .next { s with name0 := n, phase := 0x5#4 } ∧
    exec (.name2Load n) s = .next { s with name1 := n, phase := if s.expLen = 0#16 then 0x7#4 else 0x6#4 } ∧
    (s.accepted = some n → s.phase = 0x4#4 →
      step s =
        .next (State.nextCycle { s with name0 := n, phase := 0x5#4, rdData := s.buffer.load s.pins.rdAddr })) ∧
    (s.accepted = some n → s.phase = 0x5#4 →
      step s =
        .next
          (State.nextCycle
            { s with
              name1 := n
              phase := if s.expLen = 0#16 then 0x7#4 else 0x6#4
              rdData := s.buffer.load s.pins.rdAddr }))

/-- R120: a payload byte is stored at address `count` and every other address reads as before; `count` grows by one,
the checksum by the byte modulo 256, `kind` takes in bit 7, the phase is `TRAILER` exactly on the byte that makes
`count` reach `exp_len`; no other register changes. In a state with `count` 0xFFFF and `exp_len` 0, which no run
reaches (R27), the phase clause rests on the model's own reading that the comparison is on 16 bits (entry 9,
DEDUCED); wherever `count < exp_len`, as R120 presumes, it is R120's own. -/
def Obligations.DataAppendToken : Prop :=
  ∀ (s : State) (d : Byte), ∃ t,
    exec (.dataAppend d) s = .next t ∧
    t.buffer.load s.count = .written d ∧
    (∀ a, a ≠ s.count → t.buffer.load a = s.buffer.load a) ∧
    t.count = s.count + 1#16 ∧
    t.checksum.toNat = (s.checksum.toNat + d.toNat) % 256 ∧
    t.kind = (if 128 ≤ d.toNat then 1#1 else s.kind) ∧
    t.phase = (if t.count = s.expLen then 0x7#4 else 0x6#4) ∧
    { t with buffer := s.buffer, count := s.count, checksum := s.checksum, kind := s.kind, phase := s.phase } = s ∧
    (s.accepted = some d → s.phase = 0x6#4 →
      step s = .next (State.nextCycle { t with rdData := s.buffer.load s.pins.rdAddr }))

/-- R131: the end marker is followed by the checksum byte; nothing but `phase` changes and no event is emitted. -/
def Obligations.TrailerOkToken : Prop :=
  ∀ s : State,
    exec .trailerOk s = .next { s with phase := 0x8#4 } ∧
    (s.accepted = some 0x17#8 → s.phase = 0x7#4 →
      step s = .next (State.nextCycle { s with phase := 0x8#4, rdData := s.buffer.load s.pins.rdAddr }))

/-- R130, R132, R133, R134: the byte that ends a block loads the event registers with the registers as they were,
with the error class of its rule, makes the event pending, and runs `INIT()`; the name and the buffer stay. -/
def Obligations.EndingTokens : Prop :=
  ∀ (s : State) (b : Byte),
    let report := fun (err : BitVec 2) =>
      { s with
        evtName := s.name0 ++ s.name1, evtLen := s.count, evtKind := s.kind, evtErr := err, evtPending := true,
        phase := 0x0#4, expLen := 0#16, count := 0#16, checksum := 0#8, kind := 0#1 }
    exec (.trailerErr b) s = .next (report 1#2) ∧
    exec (.cksumOk b) s = .next (report 0#2) ∧
    exec (.cksumErr b) s = .next (report 2#2) ∧
    (s.accepted = some b → s.phase = 0x7#4 → b ≠ 0x17#8 →
      step s = .next (State.nextCycle { report 1#2 with rdData := s.buffer.load s.pins.rdAddr })) ∧
    (s.accepted = some b → s.phase = 0x8#4 →
      step s =
        .next
          (State.nextCycle
            { report (if b = s.checksum then 0#2 else 2#2) with rdData := s.buffer.load s.pins.rdAddr }))

/-- R11: a byte accepted in a reserved phase has exactly the effect it has in `SEEK`. -/
def Obligations.ReservedPhaseActsAsSeek : Prop :=
  ∀ (s : State) (b : Byte), 9 ≤ s.phase.toNat → exec (.feed b) s = exec (.feed b) { s with phase := 0x0#4 }

/-! ### What a step can and cannot change -/

/-- R14, R16, R48: a name byte is written only by its own phase, and the buffer only by an accepted `DATA` byte, at
`count`; so the buffer does not change while an event is pending. -/
def Obligations.NameAndBufferWriters : Prop :=
  ∀ s t : State, step s = .next t →
    (t.name0 ≠ s.name0 → s.phase = 0x4#4 ∧ s.accepted = some t.name0) ∧
    (t.name1 ≠ s.name1 → s.phase = 0x5#4 ∧ s.accepted = some t.name1) ∧
    (t.buffer ≠ s.buffer →
      s.phase = 0x6#4 ∧ ∃ b, s.accepted = some b ∧ ∀ a, t.buffer.load a = if a = s.count then .written b else s.buffer.load a) ∧
    (s.evtPending = true → t.buffer = s.buffer)

/-- R17: `kind` goes from 0 to 1 only, on a payload byte with bit 7 set, and back to 0 only with `INIT()`. -/
def Obligations.ContentClassIsSticky : Prop :=
  ∀ s t : State, step s = .next t → t.kind ≠ s.kind →
    (t.kind = 1#1 ∧ s.phase = 0x6#4 ∧ ∃ b, s.accepted = some b ∧ 128 ≤ b.toNat) ∨
    (t.kind = 0#1 ∧ t.phase = 0x0#4 ∧ t.count = 0#16 ∧ t.checksum = 0#8 ∧
      (s.pins.rst = true ∨ s.pins.beginI = true ∨ s.emittedTo t ≠ none))

/-- R18, R19: the four event registers change only at `RESET` or at the emission of an event; `evt_pending` rises
only at an emission and falls only at an acknowledge, `BEGIN` or `RESET`. -/
def Obligations.EventRegisterWriters : Prop :=
  ∀ s t : State, step s = .next t →
    (s.pins.rst = false → s.emittedTo t = none →
      t.evtName = s.evtName ∧ t.evtLen = s.evtLen ∧ t.evtKind = s.evtKind ∧ t.evtErr = s.evtErr) ∧
    (s.evtPending = false → t.evtPending = true → s.emittedTo t ≠ none) ∧
    (s.evtPending = true → t.evtPending = false →
      s.pins.rst = true ∨ s.pins.beginI = true ∨ s.pins.evtReady = true)

/-- R135, R150, R154, R155: an edge emits an event exactly when it accepts the byte that ends a block, and the event
is the block's name, length, payload, content class and the one error class that byte decides. -/
def Obligations.EventsComeFromEndingBytes : Prop :=
  ∀ s t : State, step s = .next t →
    (s.emittedTo t ≠ none ↔
      ∃ b, s.accepted = some b ∧ (s.phase = 0x7#4 ∧ b ≠ 0x17#8 ∨ s.phase = 0x8#4)) ∧
    (∀ e, s.emittedTo t = some e →
      e = { name0 := s.name0, name1 := s.name1, len := s.count, payload := s.buffer.bytes s.count.toNat, kind := s.kind,
            err := if s.phase = 0x7#4 then 1#2 else if s.accepted = some s.checksum then 0#2 else 2#2 })

/-- R28, R86, R159, R162: while the host asks for nothing (no reset, no begin, no acknowledge of a pending event, no
byte when none is pending), any number of cycles leaves every register and the buffer as they are. -/
def Obligations.UnaskedBlockKeepsItsState : Prop :=
  ∀ (n : Nat) (s : State),
    (∀ p ∈ s.pins :: s.coming,
      p.rst = false ∧ p.beginI = false ∧ (if s.evtPending then p.evtReady = false else p.inValid = false)) →
    ∃ u, runCycles n s = some (u, List.replicate n none, List.replicate n none) ∧
      u = { s with pins := u.pins, coming := u.coming, rdData := u.rdData }

/-! ### Invariants -/

/-- The state after reset meets the invariants of 10_state section 7. -/
def Obligations.ResetIsLegal : Prop := State.reset.Legal

/-- R25, R26, R27, R52: every step keeps the invariants, from every state that meets them. -/
def Obligations.StepKeepsLegal : Prop :=
  ∀ s t : State, s.Legal → step s = .next t → t.Legal

/-- Every step keeps the buffer's canonical form, whatever the other registers hold. -/
def Obligations.StepKeepsBufferCanonical : Prop :=
  ∀ s t : State, s.buffer.wf = true → step s = .next t → t.buffer.wf = true

/-! ### Streams -/

/-- R101: bytes with no sync byte among them, read in `SEEK`, change nothing and give no event. -/
def Obligations.NoiseIsSilent : Prop :=
  ∀ (d : Decoder) (xs : List Byte), d.phase = 0x0#4 → (∀ b ∈ xs, b ≠ 0x16#8) → d.feedAll xs = (d, [])

/-- R105: the length of the sync run makes no difference to the state or to the events. -/
def Obligations.SyncRunLengthIndependence : Prop :=
  ∀ (d : Decoder) (n : Nat) (xs : List Byte), d.phase = 0x0#4 → 1 ≤ n →
    d.feedAll (List.replicate n 0x16#8 ++ 0x1B#8 :: xs) = d.feedAll (0x16#8 :: 0x1B#8 :: xs)

/-- R114: the header is exactly four bytes, whatever their values: no event, both name bytes taken, the length taken,
and then the payload or the trailer. -/
def Obligations.HeaderTakesFourBytes : Prop :=
  ∀ (d : Decoder) (h l n0 n1 : Byte), d.phase = 0x2#4 →
    ∃ len : Word, len.toNat = (256 * h.toNat + l.toNat + 1) % 65536 ∧
      d.feedAll [h, l, n0, n1] =
        ({ d with expLen := len, name0 := n0, name1 := n1, phase := if len = 0#16 then 0x7#4 else 0x6#4 }, [])

/-- R121: the checksum does not depend on the order of the bytes, and a change of exactly one byte changes it. -/
def Obligations.ChecksumDetectsOneByte : Prop :=
  (∀ xs ys : List Byte, (byteSum xs).toNat = (xs.map BitVec.toNat).sum % 256 ∧ (xs.Perm ys → byteSum xs = byteSum ys)) ∧
  (∀ (xs ys : List Byte) (a b : Byte), a ≠ b → byteSum (xs ++ a :: ys) ≠ byteSum (xs ++ b :: ys))

/-- R122: the sticky class of a run of payload bytes is `OBJECT` exactly when one of them is `>= 0x80`. -/
def Obligations.ContentClassIsAnyHighByte : Prop :=
  ∀ (xs : List Byte), (xs.foldl kindAfter 0#1 = 1#1 ↔ ∃ b ∈ xs, 128 ≤ b.toNat) ∧ xs.foldl kindAfter 0#1 = contentClass xs

/-- R136: a well-formed frame read in `SEEK` gives exactly one event, with its name, length, payload, class and no
error, and the payload is in the buffer in order. One changed payload byte and nothing else gives a Checksum Error. A
wrong end marker gives a Trailer Error, and the byte after it is read in `SEEK`. -/
def Obligations.FrameGivesItsEvent : Prop :=
  ∀ (d : Decoder) (sync : Nat) (n0 n1 : Byte) (p : List Byte), d.seeking → 1 ≤ sync → p.length ≤ 65535 →
    (∃ d', d.feedAll (frame sync n0 n1 p) = (d', [blockEvent n0 n1 p .none]) ∧ d'.seeking ∧
      d'.buffer.bytes p.length = p) ∧
    (∀ (xs ys : List Byte) (a b : Byte), p = xs ++ a :: ys → a ≠ b →
      (d.feedAll (frameWith sync n0 n1 (xs ++ b :: ys) 0x17#8 (byteSum p))).2 =
        [blockEvent n0 n1 (xs ++ b :: ys) .checksum]) ∧
    (∀ e c : Byte, e ≠ 0x17#8 →
      ∃ d', d.feedAll (frameWith sync n0 n1 p e c) = (d', [blockEvent n0 n1 p .trailer]) ∧
        d'.phase = if c = 0x16#8 then 0x1#4 else 0x0#4)

/-- R134, R154: with the right end marker the checksum byte alone decides the error class; with a wrong one the
checksum byte decides nothing. -/
def Obligations.ErrorClassOfAFrame : Prop :=
  ∀ (d : Decoder) (sync : Nat) (n0 n1 : Byte) (p : List Byte) (e c : Byte),
    d.seeking → 1 ≤ sync → p.length ≤ 65535 →
    (d.feedAll (frameWith sync n0 n1 p e c)).2 =
      [blockEvent n0 n1 p (if e ≠ 0x17#8 then .trailer else if c = byteSum p then .none else .checksum)]

/-- R135, R164: a block cut short before its ending byte gives no event and no error. -/
def Obligations.TruncatedFrameGivesNoEvent : Prop :=
  ∀ (d : Decoder) (sync : Nat) (n0 n1 : Byte) (p : List Byte) (c : Byte) (k : Nat),
    d.seeking → 1 ≤ sync → p.length ≤ 65535 → k < (frameWith sync n0 n1 p 0x17#8 c).length →
    (d.feedAll ((frameWith sync n0 n1 p 0x17#8 c).take k)).2 = []

/-- R106: blocks one after another, damaged in the end marker or the checksum or not, are each recovered, in order,
as long as the bytes read in `SEEK` between two frames hold no sync byte. -/
def Obligations.ConsecutiveBlocksAreRecovered : Prop :=
  ∀ (d : Decoder) (blocks : List StreamBlock), d.seeking →
    (∀ k ∈ blocks, 1 ≤ k.sync ∧ k.payload.length ≤ 65535 ∧ (k.endByte ≠ 0x17#8 → k.cksumByte ≠ 0x16#8) ∧
      ∀ b ∈ k.pad, b ≠ 0x16#8) →
    (d.feedAll
      (blocks.flatMap fun k => frameWith k.sync k.n0 k.n1 k.payload k.endByte k.cksumByte ++ k.pad)).2 =
      blocks.map fun k =>
        blockEvent k.n0 k.n1 k.payload
          (if k.endByte ≠ 0x17#8 then .trailer else if k.cksumByte = byteSum k.payload then .none else .checksum)

/-- R174: after an event the earliest byte that can overwrite the payload is the seventh. -/
def Obligations.SnapshotMargin : Prop :=
  (∀ (d : Decoder) (xs : List Byte), d.seeking → xs.length ≤ 6 → (d.feedAll xs).1.buffer = d.buffer) ∧
  (∀ (d : Decoder) (n0 n1 b : Byte), d.seeking →
    (d.feedAll [0x16#8, 0x1B#8, 0x00#8, 0x00#8, n0, n1, b]).1.buffer.load 0#16 = .written b)

/-- R14, R5: no event shows the power-on name or any stale or power-on byte of the buffer: two blocks that seek, and
differ in nothing else, give the same events on every stream. -/
def Obligations.EventsHideOldNameAndBuffer : Prop :=
  ∀ (d₁ d₂ : Decoder) (xs : List Byte), d₁.seeking → d₂.seeking → (d₁.feedAll xs).2 = (d₂.feedAll xs).2

/-! ### Refinement -/

/-- R92: the cycle-level block refines the byte-level machine: over any number of cycles, from any state and whatever
the host does, the accepted bytes and restarts drive `feed` to the block's own Decoder State, and the events `feed`
returns are the events the block emits, each at the edge that accepts its byte. -/
def Obligations.CyclesRefineByteLevel : Prop :=
  ∀ (n : Nat) (s : State), ∃ u ops events,
    runCycles n s = some (u, ops, events) ∧ s.decoder.cycles ops = (u.decoder, events)
end

