-- ==== Sys2Proof/Laws/Memory.lean ====
section
/-! SUPPORT. The payload buffer's laws: a read after a write, the canonical form, and the bytes `0 .. n-1`. -/

namespace Sys2Proof.Machine

theorem Memory.find_insert_same (m : Memory) (a : Nat) (b : Byte) : (m.insert a b).find a = some b := by
  induction m with
  | nil => simp [Memory.insert, Memory.find]
  | cons c rest ih =>
    unfold Memory.insert
    split
    · rename_i h
      simp [Memory.find, ih, Nat.ne_of_lt h]
    · split <;> simp [Memory.find]

theorem Memory.find_insert_other (m : Memory) {a x : Nat} (b : Byte) (h : x ≠ a) :
    (m.insert a b).find x = m.find x := by
  induction m with
  | nil => simp [Memory.insert, Memory.find, Ne.symm h]
  | cons c rest ih =>
    unfold Memory.insert
    split
    · simp [Memory.find, ih]
    · split
      · rename_i e
        simp [Memory.find, Ne.symm h, e]
      · simp [Memory.find, Ne.symm h]

/-- A read of the address just written gives the byte written. -/
@[simp] theorem Memory.load_store_same (m : Memory) (a : Addr) (b : Byte) : (m.store a b).load a = .written b := by
  simp [Memory.load, Memory.store, Memory.find_insert_same]

/-- A write leaves every other address alone. -/
theorem Memory.load_store_other (m : Memory) {a x : Addr} (b : Byte) (h : x ≠ a) :
    (m.store a b).load x = m.load x := by
  have : x.toNat ≠ a.toNat := fun e => h (BitVec.eq_of_toNat_eq e)
  simp [Memory.load, Memory.store, Memory.find_insert_other m b this]

/-- Inserting above every smaller address keeps the order: the insert never puts an address below both the new one and
the list's first. -/
theorem Memory.wf_cons_insert (m : Memory) (c : Host.Cell) (a : Nat) (b : Byte) (ha : a < 65536) (hc : c.1 < a)
    (h : Memory.wf (c :: m) = true) : Memory.wf (c :: m.insert a b) = true := by
  induction m generalizing c with
  | nil => simp [Memory.insert, Memory.wf, ha, hc]
  | cons d rest ih =>
    simp only [Memory.wf, Bool.and_eq_true, decide_eq_true_eq] at h
    unfold Memory.insert
    split
    · rename_i hd
      simp only [Memory.wf, Bool.and_eq_true, decide_eq_true_eq]
      exact ⟨h.1, ih d hd h.2⟩
    · split
      · rename_i e
        cases rest with
        | nil => simp [Memory.wf, ha, hc]
        | cons f fs =>
          simp only [Memory.wf, Bool.and_eq_true, decide_eq_true_eq] at h ⊢
          exact ⟨hc, e ▸ h.2.1, h.2.2⟩
      · simp only [Memory.wf, Bool.and_eq_true, decide_eq_true_eq]
        exact ⟨hc, by omega, h.2⟩

/-- A write keeps the canonical form; so does every operation of the machine, since no other one changes the buffer. -/
theorem Memory.wf_store (m : Memory) (a : Addr) (b : Byte) (h : m.wf = true) : (m.store a b).wf = true := by
  have ha : a.toNat < 65536 := a.isLt
  unfold Memory.store
  cases m with
  | nil => simp [Memory.insert, Memory.wf, ha]
  | cons c rest =>
    unfold Memory.insert
    split
    · rename_i hc
      exact Memory.wf_cons_insert rest c a.toNat b ha hc h
    · split
      · rename_i e
        cases rest with
        | nil => simp [Memory.wf, ha]
        | cons d ds =>
          simp only [Memory.wf, Bool.and_eq_true, decide_eq_true_eq] at h ⊢
          exact ⟨e ▸ h.1, h.2⟩
      · simp only [Memory.wf, Bool.and_eq_true, decide_eq_true_eq]
        exact ⟨by omega, h⟩

@[simp] theorem Memory.byteAt_store_same (m : Memory) (a : Addr) (b : Byte) : (m.store a b).byteAt a = b := by
  simp [Memory.byteAt, BufByte.value]

theorem Memory.byteAt_store_other (m : Memory) {a x : Addr} (b : Byte) (h : x ≠ a) :
    (m.store a b).byteAt x = m.byteAt x := by
  simp [Memory.byteAt, Memory.load_store_other m b h]

@[simp] theorem Memory.bytes_zero (m : Memory) : m.bytes 0 = [] := rfl

@[simp] theorem Memory.length_bytes (m : Memory) (n : Nat) : (m.bytes n).length = n := by simp [Memory.bytes]

theorem Memory.bytes_succ (m : Memory) (n : Nat) :
    m.bytes (n + 1) = m.bytes n ++ [m.byteAt (BitVec.ofNat 16 n)] := by
  simp [Memory.bytes, List.range_succ]

/-- A write at or above `n` leaves the first `n` bytes alone. -/
theorem Memory.bytes_store_above (m : Memory) (a : Addr) (b : Byte) {n : Nat} (h : n ≤ a.toNat) :
    (m.store a b).bytes n = m.bytes n := by
  apply List.map_congr_left
  intro k hk
  have hk' := List.mem_range.mp hk
  have ha := a.isLt
  apply Memory.byteAt_store_other
  intro e
  have := congrArg BitVec.toNat e
  simp at this
  omega

/-- A write at `n` makes the first `n + 1` bytes the first `n` and the byte written. -/
theorem Memory.bytes_store_next (m : Memory) (a : Addr) (b : Byte) :
    (m.store a b).bytes (a.toNat + 1) = m.bytes a.toNat ++ [b] := by
  rw [Memory.bytes_succ, Memory.bytes_store_above m a b (Nat.le_refl _)]
  simp

end Sys2Proof.Machine
end

