-- ==== Sys2Proof/Laws/State.lean ====
section
/-! SUPPORT. One lemma per field per named update of the state: what the update leaves in the field. -/

namespace Sys2Proof.Machine

/-! ### `State.setPhase` -/

@[simp] theorem State.setPhase_phase (s : State) (p : PhaseCode) : (s.setPhase p).phase = p := rfl
@[simp] theorem State.setPhase_expLen (s : State) (p : PhaseCode) : (s.setPhase p).expLen = s.expLen := rfl
@[simp] theorem State.setPhase_count (s : State) (p : PhaseCode) : (s.setPhase p).count = s.count := rfl
@[simp] theorem State.setPhase_name0 (s : State) (p : PhaseCode) : (s.setPhase p).name0 = s.name0 := rfl
@[simp] theorem State.setPhase_name1 (s : State) (p : PhaseCode) : (s.setPhase p).name1 = s.name1 := rfl
@[simp] theorem State.setPhase_checksum (s : State) (p : PhaseCode) : (s.setPhase p).checksum = s.checksum := rfl
@[simp] theorem State.setPhase_kind (s : State) (p : PhaseCode) : (s.setPhase p).kind = s.kind := rfl
@[simp] theorem State.setPhase_buffer (s : State) (p : PhaseCode) : (s.setPhase p).buffer = s.buffer := rfl
@[simp] theorem State.setPhase_evtPending (s : State) (p : PhaseCode) : (s.setPhase p).evtPending = s.evtPending := rfl
@[simp] theorem State.setPhase_evtName (s : State) (p : PhaseCode) : (s.setPhase p).evtName = s.evtName := rfl
@[simp] theorem State.setPhase_evtLen (s : State) (p : PhaseCode) : (s.setPhase p).evtLen = s.evtLen := rfl
@[simp] theorem State.setPhase_evtKind (s : State) (p : PhaseCode) : (s.setPhase p).evtKind = s.evtKind := rfl
@[simp] theorem State.setPhase_evtErr (s : State) (p : PhaseCode) : (s.setPhase p).evtErr = s.evtErr := rfl
@[simp] theorem State.setPhase_pins (s : State) (p : PhaseCode) : (s.setPhase p).pins = s.pins := rfl
@[simp] theorem State.setPhase_coming (s : State) (p : PhaseCode) : (s.setPhase p).coming = s.coming := rfl
@[simp] theorem State.setPhase_rdData (s : State) (p : PhaseCode) : (s.setPhase p).rdData = s.rdData := rfl

/-! ### `State.setExpLen` -/

@[simp] theorem State.setExpLen_phase (s : State) (v : Word) : (s.setExpLen v).phase = s.phase := rfl
@[simp] theorem State.setExpLen_expLen (s : State) (v : Word) : (s.setExpLen v).expLen = v := rfl
@[simp] theorem State.setExpLen_count (s : State) (v : Word) : (s.setExpLen v).count = s.count := rfl
@[simp] theorem State.setExpLen_name0 (s : State) (v : Word) : (s.setExpLen v).name0 = s.name0 := rfl
@[simp] theorem State.setExpLen_name1 (s : State) (v : Word) : (s.setExpLen v).name1 = s.name1 := rfl
@[simp] theorem State.setExpLen_checksum (s : State) (v : Word) : (s.setExpLen v).checksum = s.checksum := rfl
@[simp] theorem State.setExpLen_kind (s : State) (v : Word) : (s.setExpLen v).kind = s.kind := rfl
@[simp] theorem State.setExpLen_buffer (s : State) (v : Word) : (s.setExpLen v).buffer = s.buffer := rfl
@[simp] theorem State.setExpLen_evtPending (s : State) (v : Word) : (s.setExpLen v).evtPending = s.evtPending := rfl
@[simp] theorem State.setExpLen_evtName (s : State) (v : Word) : (s.setExpLen v).evtName = s.evtName := rfl
@[simp] theorem State.setExpLen_evtLen (s : State) (v : Word) : (s.setExpLen v).evtLen = s.evtLen := rfl
@[simp] theorem State.setExpLen_evtKind (s : State) (v : Word) : (s.setExpLen v).evtKind = s.evtKind := rfl
@[simp] theorem State.setExpLen_evtErr (s : State) (v : Word) : (s.setExpLen v).evtErr = s.evtErr := rfl
@[simp] theorem State.setExpLen_pins (s : State) (v : Word) : (s.setExpLen v).pins = s.pins := rfl
@[simp] theorem State.setExpLen_coming (s : State) (v : Word) : (s.setExpLen v).coming = s.coming := rfl
@[simp] theorem State.setExpLen_rdData (s : State) (v : Word) : (s.setExpLen v).rdData = s.rdData := rfl

/-! ### `State.setName0` -/

@[simp] theorem State.setName0_phase (s : State) (b : Byte) : (s.setName0 b).phase = s.phase := rfl
@[simp] theorem State.setName0_expLen (s : State) (b : Byte) : (s.setName0 b).expLen = s.expLen := rfl
@[simp] theorem State.setName0_count (s : State) (b : Byte) : (s.setName0 b).count = s.count := rfl
@[simp] theorem State.setName0_name0 (s : State) (b : Byte) : (s.setName0 b).name0 = b := rfl
@[simp] theorem State.setName0_name1 (s : State) (b : Byte) : (s.setName0 b).name1 = s.name1 := rfl
@[simp] theorem State.setName0_checksum (s : State) (b : Byte) : (s.setName0 b).checksum = s.checksum := rfl
@[simp] theorem State.setName0_kind (s : State) (b : Byte) : (s.setName0 b).kind = s.kind := rfl
@[simp] theorem State.setName0_buffer (s : State) (b : Byte) : (s.setName0 b).buffer = s.buffer := rfl
@[simp] theorem State.setName0_evtPending (s : State) (b : Byte) : (s.setName0 b).evtPending = s.evtPending := rfl
@[simp] theorem State.setName0_evtName (s : State) (b : Byte) : (s.setName0 b).evtName = s.evtName := rfl
@[simp] theorem State.setName0_evtLen (s : State) (b : Byte) : (s.setName0 b).evtLen = s.evtLen := rfl
@[simp] theorem State.setName0_evtKind (s : State) (b : Byte) : (s.setName0 b).evtKind = s.evtKind := rfl
@[simp] theorem State.setName0_evtErr (s : State) (b : Byte) : (s.setName0 b).evtErr = s.evtErr := rfl
@[simp] theorem State.setName0_pins (s : State) (b : Byte) : (s.setName0 b).pins = s.pins := rfl
@[simp] theorem State.setName0_coming (s : State) (b : Byte) : (s.setName0 b).coming = s.coming := rfl
@[simp] theorem State.setName0_rdData (s : State) (b : Byte) : (s.setName0 b).rdData = s.rdData := rfl

/-! ### `State.setName1` -/

@[simp] theorem State.setName1_phase (s : State) (b : Byte) : (s.setName1 b).phase = s.phase := rfl
@[simp] theorem State.setName1_expLen (s : State) (b : Byte) : (s.setName1 b).expLen = s.expLen := rfl
@[simp] theorem State.setName1_count (s : State) (b : Byte) : (s.setName1 b).count = s.count := rfl
@[simp] theorem State.setName1_name0 (s : State) (b : Byte) : (s.setName1 b).name0 = s.name0 := rfl
@[simp] theorem State.setName1_name1 (s : State) (b : Byte) : (s.setName1 b).name1 = b := rfl
@[simp] theorem State.setName1_checksum (s : State) (b : Byte) : (s.setName1 b).checksum = s.checksum := rfl
@[simp] theorem State.setName1_kind (s : State) (b : Byte) : (s.setName1 b).kind = s.kind := rfl
@[simp] theorem State.setName1_buffer (s : State) (b : Byte) : (s.setName1 b).buffer = s.buffer := rfl
@[simp] theorem State.setName1_evtPending (s : State) (b : Byte) : (s.setName1 b).evtPending = s.evtPending := rfl
@[simp] theorem State.setName1_evtName (s : State) (b : Byte) : (s.setName1 b).evtName = s.evtName := rfl
@[simp] theorem State.setName1_evtLen (s : State) (b : Byte) : (s.setName1 b).evtLen = s.evtLen := rfl
@[simp] theorem State.setName1_evtKind (s : State) (b : Byte) : (s.setName1 b).evtKind = s.evtKind := rfl
@[simp] theorem State.setName1_evtErr (s : State) (b : Byte) : (s.setName1 b).evtErr = s.evtErr := rfl
@[simp] theorem State.setName1_pins (s : State) (b : Byte) : (s.setName1 b).pins = s.pins := rfl
@[simp] theorem State.setName1_coming (s : State) (b : Byte) : (s.setName1 b).coming = s.coming := rfl
@[simp] theorem State.setName1_rdData (s : State) (b : Byte) : (s.setName1 b).rdData = s.rdData := rfl

/-! ### `State.append` -/

@[simp] theorem State.append_phase (s : State) (d : Byte) : (s.append d).phase = s.phase := rfl
@[simp] theorem State.append_expLen (s : State) (d : Byte) : (s.append d).expLen = s.expLen := rfl
@[simp] theorem State.append_count (s : State) (d : Byte) : (s.append d).count = s.count + 1#16 := rfl
@[simp] theorem State.append_name0 (s : State) (d : Byte) : (s.append d).name0 = s.name0 := rfl
@[simp] theorem State.append_name1 (s : State) (d : Byte) : (s.append d).name1 = s.name1 := rfl
@[simp] theorem State.append_checksum (s : State) (d : Byte) : (s.append d).checksum = checksumAfter s.checksum d := rfl
@[simp] theorem State.append_kind (s : State) (d : Byte) : (s.append d).kind = kindAfter s.kind d := rfl
@[simp] theorem State.append_buffer (s : State) (d : Byte) : (s.append d).buffer = s.buffer.store s.count d := rfl
@[simp] theorem State.append_evtPending (s : State) (d : Byte) : (s.append d).evtPending = s.evtPending := rfl
@[simp] theorem State.append_evtName (s : State) (d : Byte) : (s.append d).evtName = s.evtName := rfl
@[simp] theorem State.append_evtLen (s : State) (d : Byte) : (s.append d).evtLen = s.evtLen := rfl
@[simp] theorem State.append_evtKind (s : State) (d : Byte) : (s.append d).evtKind = s.evtKind := rfl
@[simp] theorem State.append_evtErr (s : State) (d : Byte) : (s.append d).evtErr = s.evtErr := rfl
@[simp] theorem State.append_pins (s : State) (d : Byte) : (s.append d).pins = s.pins := rfl
@[simp] theorem State.append_coming (s : State) (d : Byte) : (s.append d).coming = s.coming := rfl
@[simp] theorem State.append_rdData (s : State) (d : Byte) : (s.append d).rdData = s.rdData := rfl

/-! ### `State.initDecoder` -/

@[simp] theorem State.initDecoder_phase (s : State) : (s.initDecoder).phase = Phase.seek := rfl
@[simp] theorem State.initDecoder_expLen (s : State) : (s.initDecoder).expLen = 0#16 := rfl
@[simp] theorem State.initDecoder_count (s : State) : (s.initDecoder).count = 0#16 := rfl
@[simp] theorem State.initDecoder_name0 (s : State) : (s.initDecoder).name0 = s.name0 := rfl
@[simp] theorem State.initDecoder_name1 (s : State) : (s.initDecoder).name1 = s.name1 := rfl
@[simp] theorem State.initDecoder_checksum (s : State) : (s.initDecoder).checksum = 0#8 := rfl
@[simp] theorem State.initDecoder_kind (s : State) : (s.initDecoder).kind = Kind.text := rfl
@[simp] theorem State.initDecoder_buffer (s : State) : (s.initDecoder).buffer = s.buffer := rfl
@[simp] theorem State.initDecoder_evtPending (s : State) : (s.initDecoder).evtPending = s.evtPending := rfl
@[simp] theorem State.initDecoder_evtName (s : State) : (s.initDecoder).evtName = s.evtName := rfl
@[simp] theorem State.initDecoder_evtLen (s : State) : (s.initDecoder).evtLen = s.evtLen := rfl
@[simp] theorem State.initDecoder_evtKind (s : State) : (s.initDecoder).evtKind = s.evtKind := rfl
@[simp] theorem State.initDecoder_evtErr (s : State) : (s.initDecoder).evtErr = s.evtErr := rfl
@[simp] theorem State.initDecoder_pins (s : State) : (s.initDecoder).pins = s.pins := rfl
@[simp] theorem State.initDecoder_coming (s : State) : (s.initDecoder).coming = s.coming := rfl
@[simp] theorem State.initDecoder_rdData (s : State) : (s.initDecoder).rdData = s.rdData := rfl

/-! ### `State.loadEvent` -/

@[simp] theorem State.loadEvent_phase (s : State) (e : ErrClass) : (s.loadEvent e).phase = s.phase := rfl
@[simp] theorem State.loadEvent_expLen (s : State) (e : ErrClass) : (s.loadEvent e).expLen = s.expLen := rfl
@[simp] theorem State.loadEvent_count (s : State) (e : ErrClass) : (s.loadEvent e).count = s.count := rfl
@[simp] theorem State.loadEvent_name0 (s : State) (e : ErrClass) : (s.loadEvent e).name0 = s.name0 := rfl
@[simp] theorem State.loadEvent_name1 (s : State) (e : ErrClass) : (s.loadEvent e).name1 = s.name1 := rfl
@[simp] theorem State.loadEvent_checksum (s : State) (e : ErrClass) : (s.loadEvent e).checksum = s.checksum := rfl
@[simp] theorem State.loadEvent_kind (s : State) (e : ErrClass) : (s.loadEvent e).kind = s.kind := rfl
@[simp] theorem State.loadEvent_buffer (s : State) (e : ErrClass) : (s.loadEvent e).buffer = s.buffer := rfl
@[simp] theorem State.loadEvent_evtPending (s : State) (e : ErrClass) : (s.loadEvent e).evtPending = true := rfl
@[simp] theorem State.loadEvent_evtName (s : State) (e : ErrClass) : (s.loadEvent e).evtName = packName s.name0 s.name1 := rfl
@[simp] theorem State.loadEvent_evtLen (s : State) (e : ErrClass) : (s.loadEvent e).evtLen = s.count := rfl
@[simp] theorem State.loadEvent_evtKind (s : State) (e : ErrClass) : (s.loadEvent e).evtKind = s.kind := rfl
@[simp] theorem State.loadEvent_evtErr (s : State) (e : ErrClass) : (s.loadEvent e).evtErr = e.code := rfl
@[simp] theorem State.loadEvent_pins (s : State) (e : ErrClass) : (s.loadEvent e).pins = s.pins := rfl
@[simp] theorem State.loadEvent_coming (s : State) (e : ErrClass) : (s.loadEvent e).coming = s.coming := rfl
@[simp] theorem State.loadEvent_rdData (s : State) (e : ErrClass) : (s.loadEvent e).rdData = s.rdData := rfl

/-! ### `State.emit` -/

@[simp] theorem State.emit_phase (s : State) (e : ErrClass) : (s.emit e).phase = Phase.seek := rfl
@[simp] theorem State.emit_expLen (s : State) (e : ErrClass) : (s.emit e).expLen = 0#16 := rfl
@[simp] theorem State.emit_count (s : State) (e : ErrClass) : (s.emit e).count = 0#16 := rfl
@[simp] theorem State.emit_name0 (s : State) (e : ErrClass) : (s.emit e).name0 = s.name0 := rfl
@[simp] theorem State.emit_name1 (s : State) (e : ErrClass) : (s.emit e).name1 = s.name1 := rfl
@[simp] theorem State.emit_checksum (s : State) (e : ErrClass) : (s.emit e).checksum = 0#8 := rfl
@[simp] theorem State.emit_kind (s : State) (e : ErrClass) : (s.emit e).kind = Kind.text := rfl
@[simp] theorem State.emit_buffer (s : State) (e : ErrClass) : (s.emit e).buffer = s.buffer := rfl
@[simp] theorem State.emit_evtPending (s : State) (e : ErrClass) : (s.emit e).evtPending = true := rfl
@[simp] theorem State.emit_evtName (s : State) (e : ErrClass) : (s.emit e).evtName = packName s.name0 s.name1 := rfl
@[simp] theorem State.emit_evtLen (s : State) (e : ErrClass) : (s.emit e).evtLen = s.count := rfl
@[simp] theorem State.emit_evtKind (s : State) (e : ErrClass) : (s.emit e).evtKind = s.kind := rfl
@[simp] theorem State.emit_evtErr (s : State) (e : ErrClass) : (s.emit e).evtErr = e.code := rfl
@[simp] theorem State.emit_pins (s : State) (e : ErrClass) : (s.emit e).pins = s.pins := rfl
@[simp] theorem State.emit_coming (s : State) (e : ErrClass) : (s.emit e).coming = s.coming := rfl
@[simp] theorem State.emit_rdData (s : State) (e : ErrClass) : (s.emit e).rdData = s.rdData := rfl

/-! ### `State.dropEvent` -/

@[simp] theorem State.dropEvent_phase (s : State) : (s.dropEvent).phase = s.phase := rfl
@[simp] theorem State.dropEvent_expLen (s : State) : (s.dropEvent).expLen = s.expLen := rfl
@[simp] theorem State.dropEvent_count (s : State) : (s.dropEvent).count = s.count := rfl
@[simp] theorem State.dropEvent_name0 (s : State) : (s.dropEvent).name0 = s.name0 := rfl
@[simp] theorem State.dropEvent_name1 (s : State) : (s.dropEvent).name1 = s.name1 := rfl
@[simp] theorem State.dropEvent_checksum (s : State) : (s.dropEvent).checksum = s.checksum := rfl
@[simp] theorem State.dropEvent_kind (s : State) : (s.dropEvent).kind = s.kind := rfl
@[simp] theorem State.dropEvent_buffer (s : State) : (s.dropEvent).buffer = s.buffer := rfl
@[simp] theorem State.dropEvent_evtPending (s : State) : (s.dropEvent).evtPending = false := rfl
@[simp] theorem State.dropEvent_evtName (s : State) : (s.dropEvent).evtName = s.evtName := rfl
@[simp] theorem State.dropEvent_evtLen (s : State) : (s.dropEvent).evtLen = s.evtLen := rfl
@[simp] theorem State.dropEvent_evtKind (s : State) : (s.dropEvent).evtKind = s.evtKind := rfl
@[simp] theorem State.dropEvent_evtErr (s : State) : (s.dropEvent).evtErr = s.evtErr := rfl
@[simp] theorem State.dropEvent_pins (s : State) : (s.dropEvent).pins = s.pins := rfl
@[simp] theorem State.dropEvent_coming (s : State) : (s.dropEvent).coming = s.coming := rfl
@[simp] theorem State.dropEvent_rdData (s : State) : (s.dropEvent).rdData = s.rdData := rfl

/-! ### `State.clearEvent` -/

@[simp] theorem State.clearEvent_phase (s : State) : (s.clearEvent).phase = s.phase := rfl
@[simp] theorem State.clearEvent_expLen (s : State) : (s.clearEvent).expLen = s.expLen := rfl
@[simp] theorem State.clearEvent_count (s : State) : (s.clearEvent).count = s.count := rfl
@[simp] theorem State.clearEvent_name0 (s : State) : (s.clearEvent).name0 = s.name0 := rfl
@[simp] theorem State.clearEvent_name1 (s : State) : (s.clearEvent).name1 = s.name1 := rfl
@[simp] theorem State.clearEvent_checksum (s : State) : (s.clearEvent).checksum = s.checksum := rfl
@[simp] theorem State.clearEvent_kind (s : State) : (s.clearEvent).kind = s.kind := rfl
@[simp] theorem State.clearEvent_buffer (s : State) : (s.clearEvent).buffer = s.buffer := rfl
@[simp] theorem State.clearEvent_evtPending (s : State) : (s.clearEvent).evtPending = s.evtPending := rfl
@[simp] theorem State.clearEvent_evtName (s : State) : (s.clearEvent).evtName = 0#16 := rfl
@[simp] theorem State.clearEvent_evtLen (s : State) : (s.clearEvent).evtLen = 0#16 := rfl
@[simp] theorem State.clearEvent_evtKind (s : State) : (s.clearEvent).evtKind = 0#1 := rfl
@[simp] theorem State.clearEvent_evtErr (s : State) : (s.clearEvent).evtErr = 0#2 := rfl
@[simp] theorem State.clearEvent_pins (s : State) : (s.clearEvent).pins = s.pins := rfl
@[simp] theorem State.clearEvent_coming (s : State) : (s.clearEvent).coming = s.coming := rfl
@[simp] theorem State.clearEvent_rdData (s : State) : (s.clearEvent).rdData = s.rdData := rfl

/-! ### `State.showRead` -/

@[simp] theorem State.showRead_phase (s : State) (v : BufByte) : (s.showRead v).phase = s.phase := rfl
@[simp] theorem State.showRead_expLen (s : State) (v : BufByte) : (s.showRead v).expLen = s.expLen := rfl
@[simp] theorem State.showRead_count (s : State) (v : BufByte) : (s.showRead v).count = s.count := rfl
@[simp] theorem State.showRead_name0 (s : State) (v : BufByte) : (s.showRead v).name0 = s.name0 := rfl
@[simp] theorem State.showRead_name1 (s : State) (v : BufByte) : (s.showRead v).name1 = s.name1 := rfl
@[simp] theorem State.showRead_checksum (s : State) (v : BufByte) : (s.showRead v).checksum = s.checksum := rfl
@[simp] theorem State.showRead_kind (s : State) (v : BufByte) : (s.showRead v).kind = s.kind := rfl
@[simp] theorem State.showRead_buffer (s : State) (v : BufByte) : (s.showRead v).buffer = s.buffer := rfl
@[simp] theorem State.showRead_evtPending (s : State) (v : BufByte) : (s.showRead v).evtPending = s.evtPending := rfl
@[simp] theorem State.showRead_evtName (s : State) (v : BufByte) : (s.showRead v).evtName = s.evtName := rfl
@[simp] theorem State.showRead_evtLen (s : State) (v : BufByte) : (s.showRead v).evtLen = s.evtLen := rfl
@[simp] theorem State.showRead_evtKind (s : State) (v : BufByte) : (s.showRead v).evtKind = s.evtKind := rfl
@[simp] theorem State.showRead_evtErr (s : State) (v : BufByte) : (s.showRead v).evtErr = s.evtErr := rfl
@[simp] theorem State.showRead_pins (s : State) (v : BufByte) : (s.showRead v).pins = s.pins := rfl
@[simp] theorem State.showRead_coming (s : State) (v : BufByte) : (s.showRead v).coming = s.coming := rfl
@[simp] theorem State.showRead_rdData (s : State) (v : BufByte) : (s.showRead v).rdData = v := rfl

/-! ### `State.nextCycle` -/

@[simp] theorem State.nextCycle_phase (s : State) : (s.nextCycle).phase = s.phase := rfl
@[simp] theorem State.nextCycle_expLen (s : State) : (s.nextCycle).expLen = s.expLen := rfl
@[simp] theorem State.nextCycle_count (s : State) : (s.nextCycle).count = s.count := rfl
@[simp] theorem State.nextCycle_name0 (s : State) : (s.nextCycle).name0 = s.name0 := rfl
@[simp] theorem State.nextCycle_name1 (s : State) : (s.nextCycle).name1 = s.name1 := rfl
@[simp] theorem State.nextCycle_checksum (s : State) : (s.nextCycle).checksum = s.checksum := rfl
@[simp] theorem State.nextCycle_kind (s : State) : (s.nextCycle).kind = s.kind := rfl
@[simp] theorem State.nextCycle_buffer (s : State) : (s.nextCycle).buffer = s.buffer := rfl
@[simp] theorem State.nextCycle_evtPending (s : State) : (s.nextCycle).evtPending = s.evtPending := rfl
@[simp] theorem State.nextCycle_evtName (s : State) : (s.nextCycle).evtName = s.evtName := rfl
@[simp] theorem State.nextCycle_evtLen (s : State) : (s.nextCycle).evtLen = s.evtLen := rfl
@[simp] theorem State.nextCycle_evtKind (s : State) : (s.nextCycle).evtKind = s.evtKind := rfl
@[simp] theorem State.nextCycle_evtErr (s : State) : (s.nextCycle).evtErr = s.evtErr := rfl
@[simp] theorem State.nextCycle_pins (s : State) : (s.nextCycle).pins = s.coming.headD Pins.quiet := rfl
@[simp] theorem State.nextCycle_coming (s : State) : (s.nextCycle).coming = s.coming.tail := rfl
@[simp] theorem State.nextCycle_rdData (s : State) : (s.nextCycle).rdData = s.rdData := rfl

/-! ### The Decoder State within the block -/

@[simp] theorem State.decoder_phase (s : State) : s.decoder.phase = s.phase := rfl
@[simp] theorem Decoder.toState_phase (d : Decoder) : d.toState.phase = d.phase := rfl
@[simp] theorem State.decoder_expLen (s : State) : s.decoder.expLen = s.expLen := rfl
@[simp] theorem Decoder.toState_expLen (d : Decoder) : d.toState.expLen = d.expLen := rfl
@[simp] theorem State.decoder_count (s : State) : s.decoder.count = s.count := rfl
@[simp] theorem Decoder.toState_count (d : Decoder) : d.toState.count = d.count := rfl
@[simp] theorem State.decoder_name0 (s : State) : s.decoder.name0 = s.name0 := rfl
@[simp] theorem Decoder.toState_name0 (d : Decoder) : d.toState.name0 = d.name0 := rfl
@[simp] theorem State.decoder_name1 (s : State) : s.decoder.name1 = s.name1 := rfl
@[simp] theorem Decoder.toState_name1 (d : Decoder) : d.toState.name1 = d.name1 := rfl
@[simp] theorem State.decoder_checksum (s : State) : s.decoder.checksum = s.checksum := rfl
@[simp] theorem Decoder.toState_checksum (d : Decoder) : d.toState.checksum = d.checksum := rfl
@[simp] theorem State.decoder_kind (s : State) : s.decoder.kind = s.kind := rfl
@[simp] theorem Decoder.toState_kind (d : Decoder) : d.toState.kind = d.kind := rfl
@[simp] theorem State.decoder_buffer (s : State) : s.decoder.buffer = s.buffer := rfl
@[simp] theorem Decoder.toState_buffer (d : Decoder) : d.toState.buffer = d.buffer := rfl
@[simp] theorem Decoder.toState_evtPending (d : Decoder) : d.toState.evtPending = State.reset.evtPending := rfl
@[simp] theorem Decoder.toState_evtName (d : Decoder) : d.toState.evtName = State.reset.evtName := rfl
@[simp] theorem Decoder.toState_evtLen (d : Decoder) : d.toState.evtLen = State.reset.evtLen := rfl
@[simp] theorem Decoder.toState_evtKind (d : Decoder) : d.toState.evtKind = State.reset.evtKind := rfl
@[simp] theorem Decoder.toState_evtErr (d : Decoder) : d.toState.evtErr = State.reset.evtErr := rfl
@[simp] theorem Decoder.toState_pins (d : Decoder) : d.toState.pins = State.reset.pins := rfl
@[simp] theorem Decoder.toState_coming (d : Decoder) : d.toState.coming = State.reset.coming := rfl
@[simp] theorem Decoder.toState_rdData (d : Decoder) : d.toState.rdData = State.reset.rdData := rfl
@[simp] theorem Decoder.toState_decoder (d : Decoder) : d.toState.decoder = d := rfl

end Sys2Proof.Machine
end

