-- ==== Sys2Proof/Laws/Ops.lean ====
section
/-! SUPPORT. What each shared operation can do, said once. -/

namespace Sys2Proof

/-- The bits of a byte token's key. -/
theorem getLsbD_tokenKey (p : PhaseCode) (b : Byte) (i : Nat) :
    (tokenKey p b).getLsbD i = if i < 8 then b.getLsbD i else p.getLsbD (i - 8) :=
  BitVec.getLsbD_append

@[simp] theorem tokenPhase_tokenKey (p : PhaseCode) (b : Byte) : tokenPhase (tokenKey p b) = p := by
  ext i hi
  simp [tokenPhase, getLsbD_tokenKey, BitVec.getLsbD_eq_getElem hi]

@[simp] theorem tokenByte_tokenKey (p : PhaseCode) (b : Byte) : tokenByte (tokenKey p b) = b := by
  ext i hi
  simp [tokenByte, getLsbD_tokenKey, hi]

/-- A key is the phase code and the byte it is made of. -/
theorem tokenKey_parts (k : TokenKey) : tokenKey (tokenPhase k) (tokenByte k) = k := by
  apply BitVec.eq_of_getLsbD_eq
  intro i hi
  rw [getLsbD_tokenKey]
  split
  · rename_i h
    simp [tokenByte, h]
  · have : i - 8 < 4 := by omega
    have e : 8 + (i - 8) = i := by omega
    simp [tokenPhase, this, e]

namespace Machine

/-- The bits of a big-endian word. -/
theorem getLsbD_bigEndian (hi lo : Byte) (i : Nat) :
    (bigEndian hi lo).getLsbD i = if i < 8 then lo.getLsbD i else hi.getLsbD (i - 8) :=
  BitVec.getLsbD_append

@[simp] theorem highByte_bigEndian (hi lo : Byte) : highByte (bigEndian hi lo) = hi := by
  ext i h
  simp [highByte, getLsbD_bigEndian, BitVec.getLsbD_eq_getElem h]

@[simp] theorem lowByte_bigEndian (hi lo : Byte) : lowByte (bigEndian hi lo) = lo := by
  ext i h
  simp [lowByte, getLsbD_bigEndian, h]

/-- A word is its two bytes, the high one first. -/
theorem bigEndian_parts (w : Word) : bigEndian (highByte w) (lowByte w) = w := by
  apply BitVec.eq_of_getLsbD_eq
  intro i hi
  rw [getLsbD_bigEndian]
  split
  · rename_i h
    simp [lowByte, h]
  · have : i - 8 < 8 := by omega
    have e : 8 + (i - 8) = i := by omega
    simp [highByte, this, e]

@[simp] theorem declaredLength_withHighByte (w : Word) (h l : Byte) :
    declaredLength (withHighByte w h) l = bigEndian h l := by
  simp [declaredLength, withHighByte]

@[simp] theorem andThen_next (s : State) (f : State → Host.Outcome State Fault Refusal) :
    andThen (.next s) f = f s := rfl

/-- If a sequence answers a next state, its first part did, and the second part gave that state from it. -/
theorem andThen_eq_next {o : Host.Outcome State Fault Refusal} {f : State → Host.Outcome State Fault Refusal}
    {t : State} (h : andThen o f = .next t) : ∃ s, o = .next s ∧ f s = .next t := by
  cases o with
  | next s => exact ⟨s, rfl, h⟩
  | fault r => cases r
  | refused r => cases h

/-- `INIT()` writes its five registers and nothing else (R20). -/
theorem initDecoder_spec (s : State) :
    s.initDecoder = { s with phase := Phase.seek, expLen := 0#16, count := 0#16, checksum := 0#8, kind := Kind.text } :=
  rfl

/-- `emit(e)` reports the registers as they were before it and then runs `INIT()` (R130). -/
theorem emit_spec (s : State) (e : ErrClass) :
    s.emit e =
      { s.initDecoder with
        evtName := packName s.name0 s.name1, evtLen := s.count, evtKind := s.kind, evtErr := e.code,
        evtPending := true } :=
  rfl

/-- A payload byte leaves every buffer address but `count` alone, and the byte is at `count` (R120). -/
theorem append_load (s : State) (d : Byte) (a : Addr) :
    (s.append d).buffer.load a = if a = s.count then .written d else s.buffer.load a := by
  split
  · rename_i h
    simp [h]
  · rename_i h
    simp [Memory.load_store_other _ _ h]

/-- The payload so far grows by exactly the byte appended (R41, R120). -/
theorem append_bytes (s : State) (d : Byte) :
    (s.append d).buffer.bytes (s.count.toNat + 1) = s.buffer.bytes s.count.toNat ++ [d] := by
  simpa using Memory.bytes_store_next s.buffer s.count d

@[simp] theorem byteSum_nil : byteSum [] = 0#8 := rfl

/-- The rolling checksum is the sum of the payload so far (R121). -/
theorem byteSum_append_one (bs : List Byte) (b : Byte) : byteSum (bs ++ [b]) = checksumAfter (byteSum bs) b := by
  simp [byteSum, List.foldl_append]

@[simp] theorem contentClass_nil : contentClass [] = Kind.text := rfl

/-- One byte is accepted exactly when it is offered and nothing has priority over it (R81, R153). -/
theorem accepted_eq_some {s : State} {b : Byte} :
    s.accepted = some b ↔
      s.pins.rst = false ∧ s.pins.beginI = false ∧ s.evtPending = false ∧ s.pins.inValid = true ∧ s.pins.inData = b := by
  unfold State.accepted State.outputs
  cases s.pins.rst <;> cases s.pins.beginI <;> cases s.evtPending <;> cases s.pins.inValid <;> simp

/-- What `rd_data` shows has no part in the port operation. -/
@[simp] theorem showRead_command (s : State) (v : BufByte) : (s.showRead v).command = s.command := rfl

/-- What `rd_data` shows has no part in the byte token. -/
@[simp] theorem showRead_token (s : State) (v : BufByte) (b : Byte) : (s.showRead v).token b = s.token b := rfl

/-- A step is `BUF_READ`, the port operation, and the next cycle's inputs (R82). -/
theorem step_eq (s : State) :
    step s =
      andThen (exec s.command (s.showRead (s.buffer.load s.pins.rdAddr))) fun edge => .next edge.nextCycle := rfl

/-- If a step answers a next state, the port operation answered one, and the step's is that with the next cycle's
inputs (R82). -/
theorem step_eq_next {s t : State} (h : step s = .next t) :
    ∃ edge, exec s.command (s.showRead (s.buffer.load s.pins.rdAddr)) = .next edge ∧ t = edge.nextCycle := by
  rw [step_eq] at h
  obtain ⟨edge, he, ht⟩ := andThen_eq_next h
  cases ht
  exact ⟨edge, he, rfl⟩

/-- An accepted byte leaves the ports and what the read port shows alone, whatever row it selects (R90). -/
theorem feedByte_frame {b : Byte} {s t : State} (h : feedByte b s = .next t) :
    t.pins = s.pins ∧ t.coming = s.coming ∧ t.rdData = s.rdData := by
  unfold feedByte at h
  split at h <;> cases h <;> exact ⟨rfl, rfl, rfl⟩

/-- A placed byte token is offered with nothing before it in priority, so it is accepted (entry 5). -/
theorem place_token_accepted (s : State) (k : TokenKey) : (s.place (.token k)).accepted = some (tokenByte k) := by
  simp [accepted_eq_some, State.place, Pins.offer]

end Machine
end Sys2Proof
end

