-- ==== Sys2Proof/Laws/PerInstr.lean ====
section
/-! SUPPORT. A law of every instruction as syntax: its encoding carries the fixed bits of its opcode-table row. -/

namespace Sys2Proof.Laws.EncodingCarriesRow

/-- The columns "match" and "mask" of an instruction's row in spec/opcode_table.json. -/
def row : Instr → BitVec 12 × BitVec 12
  | .seekSync => (0x016#12, 0xFFF#12)
  | .seekNoise _ => (0x000#12, 0xF00#12)
  | .syncMore => (0x116#12, 0xFFF#12)
  | .syncEsc => (0x11B#12, 0xFFF#12)
  | .syncDesync _ => (0x100#12, 0xF00#12)
  | .lenHiLoad _ => (0x200#12, 0xF00#12)
  | .lenLoLoad _ => (0x300#12, 0xF00#12)
  | .name1Load _ => (0x400#12, 0xF00#12)
  | .name2Load _ => (0x500#12, 0xF00#12)
  | .dataAppend _ => (0x600#12, 0xF00#12)
  | .trailerOk => (0x717#12, 0xFFF#12)
  | .trailerErr _ => (0x700#12, 0xF00#12)
  | .cksumOk _ => (0x800#12, 0xF00#12)
  | .cksumErr _ => (0x800#12, 0xF00#12)
  | .rsvdAsSeekSync _ => (0x816#12, 0x8FF#12)
  | .rsvdAsSeekNoise _ _ => (0x800#12, 0x800#12)
  | .reset => (0x10#12, 0x10#12)
  | .beginStream => (0x08#12, 0x18#12)
  | .evtAck => (0x06#12, 0x1E#12)
  | .evtHold => (0x04#12, 0x1E#12)
  | .feed _ => (0x01#12, 0x1D#12)
  | .idle => (0x00#12, 0x1D#12)
  | .bufRead _ => (0x00#12, 0x00#12)

/-- The key bits of a code, as the opcode table numbers them. -/
def keyBits : Code → BitVec 12
  | .token k => k
  | .port p _ => p.zeroExtend 12
  | .read _ => 0#12

/-- The encoding of a well-formed instruction matches its row. -/
def Statement (i : Instr) : Prop := i.wellFormed = true → keyBits (encode i) &&& (row i).2 = (row i).1

theorem seekSync : Statement .seekSync := by unfold Statement; decide
theorem seekNoise (b : Byte) : Statement (.seekNoise b) := by revert b; unfold Statement; decide
theorem syncMore : Statement .syncMore := by unfold Statement; decide
theorem syncEsc : Statement .syncEsc := by unfold Statement; decide
theorem syncDesync (b : Byte) : Statement (.syncDesync b) := by revert b; unfold Statement; decide
theorem lenHiLoad (h : Byte) : Statement (.lenHiLoad h) := by revert h; unfold Statement; decide
theorem lenLoLoad (l : Byte) : Statement (.lenLoLoad l) := by revert l; unfold Statement; decide
theorem name1Load (n : Byte) : Statement (.name1Load n) := by revert n; unfold Statement; decide
theorem name2Load (n : Byte) : Statement (.name2Load n) := by revert n; unfold Statement; decide
theorem dataAppend (d : Byte) : Statement (.dataAppend d) := by revert d; unfold Statement; decide
theorem trailerOk : Statement .trailerOk := by unfold Statement; decide
theorem trailerErr (b : Byte) : Statement (.trailerErr b) := by revert b; unfold Statement; decide
theorem cksumOk (c : Byte) : Statement (.cksumOk c) := by revert c; unfold Statement; decide
theorem cksumErr (c : Byte) : Statement (.cksumErr c) := by revert c; unfold Statement; decide
theorem rsvdAsSeekSync (p : PhaseCode) : Statement (.rsvdAsSeekSync p) := by revert p; unfold Statement; decide
theorem rsvdAsSeekNoise (p : PhaseCode) (b : Byte) : Statement (.rsvdAsSeekNoise p b) := by
  have keep : ∀ p : PhaseCode, Phase.firstReserved.ule p = true → p &&& 0x8#4 = 0x8#4 := by decide
  intro h
  simp only [Instr.wellFormed, Bool.and_eq_true] at h
  have parts : (p &&& 0x8#4) ++ (b &&& 0#8) = (p ++ b) &&& (0x8#4 ++ 0#8) := BitVec.and_append.symm
  calc keyBits (encode (.rsvdAsSeekNoise p b)) &&& (row (.rsvdAsSeekNoise p b)).2
      = (p ++ b) &&& (0x8#4 ++ 0#8) := rfl
    _ = (p &&& 0x8#4) ++ (b &&& 0#8) := parts.symm
    _ = 0x8#4 ++ 0#8 := by rw [keep p h.1]; simp
theorem reset : Statement .reset := by unfold Statement; decide
theorem beginStream : Statement .beginStream := by unfold Statement; decide
theorem evtAck : Statement .evtAck := by unfold Statement; decide
theorem evtHold : Statement .evtHold := by unfold Statement; decide
theorem feed (b : Byte) : Statement (.feed b) := fun _ => by simp [keyBits, encode, row]
theorem idle : Statement .idle := by unfold Statement; decide
theorem bufRead (a : Addr) : Statement (.bufRead a) := fun _ => by simp [keyBits, encode, row]

end Sys2Proof.Laws.EncodingCarriesRow
end

