-- ==== Sys2Proof/Tests/Slice0.lean ====
section
/-! SUPPORT. Tests of the model. Expected values come from the rules' examples and from 95_test_vectors (V<n>), or are
worked from the encoding tables by hand. The last part gives, for each statement with hypotheses, a state and operands
that meet them. -/

namespace Sys2Proof.Tests

open Sys2Proof.Machine

/-! ### WellFormed: each check refuses a term (R61, "any byte not matched by row ...") -/

theorem test_wf_seekNoise_refuses_sync : Instr.wellFormed (.seekNoise 0x16#8) = false := by decide
theorem test_wf_syncDesync_refuses_sync : Instr.wellFormed (.syncDesync 0x16#8) = false := by decide
theorem test_wf_syncDesync_refuses_esc : Instr.wellFormed (.syncDesync 0x1B#8) = false := by decide
theorem test_wf_trailerErr_refuses_end : Instr.wellFormed (.trailerErr 0x17#8) = false := by decide
theorem test_wf_rsvdSync_refuses_cksum_phase : Instr.wellFormed (.rsvdAsSeekSync 0x8#4) = false := by decide
theorem test_wf_rsvdNoise_refuses_cksum_phase : Instr.wellFormed (.rsvdAsSeekNoise 0x8#4 0x00#8) = false := by decide
theorem test_wf_rsvdNoise_refuses_sync : Instr.wellFormed (.rsvdAsSeekNoise 0x9#4 0x16#8) = false := by decide
theorem test_wf_seekNoise_takes_esc : Instr.wellFormed (.seekNoise 0x1B#8) = true := by decide
theorem test_cond_cksumOk_refuses_other : Instr.stateCondition 0x0F#8 (.cksumOk 0xFF#8) = false := by decide
theorem test_cond_cksumErr_refuses_equal : Instr.stateCondition 0x0F#8 (.cksumErr 0x0F#8) = false := by decide

/-! ### Decode: every constructor from a word written out from R61 and R64 (V15, V31, V37) -/

theorem test_decode_seekSync : decodeToken 0b000000010110#12 0#8 = .seekSync := by decide
theorem test_decode_seekNoise : decodeToken 0b000011111111#12 0#8 = .seekNoise 0xFF#8 := by decide
theorem test_decode_syncMore : decodeToken 0b000100010110#12 0#8 = .syncMore := by decide
theorem test_decode_syncEsc : decodeToken 0b000100011011#12 0#8 = .syncEsc := by decide
theorem test_decode_syncDesync : decodeToken 0b000100010111#12 0#8 = .syncDesync 0x17#8 := by decide
theorem test_decode_lenHiLoad : decodeToken 0b001000010010#12 0#8 = .lenHiLoad 0x12#8 := by decide
theorem test_decode_lenLoLoad : decodeToken 0b001100000100#12 0#8 = .lenLoLoad 0x04#8 := by decide
theorem test_decode_name1Load : decodeToken 0b010001000001#12 0#8 = .name1Load 0x41#8 := by decide
theorem test_decode_name2Load : decodeToken 0b010101000010#12 0#8 = .name2Load 0x42#8 := by decide
theorem test_decode_dataAppend : decodeToken 0b011000010110#12 0#8 = .dataAppend 0x16#8 := by decide
theorem test_decode_trailerOk : decodeToken 0b011100010111#12 0#8 = .trailerOk := by decide
theorem test_decode_trailerErr : decodeToken 0b011100010110#12 0#8 = .trailerErr 0x16#8 := by decide
theorem test_decode_cksumOk : decodeToken 0b100000010110#12 0x16#8 = .cksumOk 0x16#8 := by decide
theorem test_decode_cksumErr : decodeToken 0b100011111111#12 0x0F#8 = .cksumErr 0xFF#8 := by decide
theorem test_decode_rsvdAsSeekSync : decodeToken 0b111100010110#12 0#8 = .rsvdAsSeekSync 0xF#4 := by decide
theorem test_decode_rsvdAsSeekNoise : decodeToken 0b110000010111#12 0#8 = .rsvdAsSeekNoise 0xC#4 0x17#8 := by decide
theorem test_decode_reset : decodePort 0b11111#5 0x16#8 = .reset := by decide
theorem test_decode_begin : decodePort 0b01111#5 0x16#8 = .beginStream := by decide
theorem test_decode_evtAck : decodePort 0b00111#5 0x16#8 = .evtAck := by decide
theorem test_decode_evtHold : decodePort 0b00101#5 0x16#8 = .evtHold := by decide
theorem test_decode_feed : decodePort 0b00011#5 0x16#8 = .feed 0x16#8 := by decide
theorem test_decode_idle : decodePort 0b00010#5 0x16#8 = .idle := by decide
theorem test_decode_bufRead : decode 0#8 (.read 0x0004#16) = .bufRead 0x0004#16 := by decide

/-- Bits above a 12-bit key are no byte token (R60). -/
theorem test_word_too_wide_refused : decodeTableWord 16 0x1016 = none := by decide

/-! ### One instruction each, from the rules' examples -/

/-- What a next state holds in one place. -/
def after {α : Type} (o : Host.Outcome State Fault Refusal) (f : State → α) : Option α :=
  match o with
  | .next s => some (f s)
  | .fault _ => none
  | .refused _ => none

/-- The state after reset, in a given phase. -/
def inPhase (p : PhaseCode) : State := { State.reset with phase := p }

/-- `DATA`, `exp_len = 5`, `count = 4`, `checksum = 0x0A`, name `AB` (the example of R120). -/
def lastByte : State :=
  { State.reset with
    phase := Phase.data, expLen := 5#16, count := 4#16, checksum := 0x0A#8, name0 := 0x41#8, name1 := 0x42#8
    buffer := [(0, 0x01#8), (1, 0x02#8), (2, 0x03#8), (3, 0x04#8)] }

/-- `CKSUM` of the same block: `checksum = 0x0F` (the examples of R133, R134). -/
def atCksum : State :=
  { lastByte with
    phase := Phase.cksum, count := 5#16, checksum := 0x0F#8
    buffer := [(0, 0x01#8), (1, 0x02#8), (2, 0x03#8), (3, 0x04#8), (4, 0x05#8)] }

/-- A host that offers a byte. -/
def State.offering (s : State) (b : Byte) : State := { s with pins := { Pins.quiet with inValid := true, inData := b } }

/-- A pending event, as V1 leaves it, and one byte listed in the buffer. -/
def pending : State :=
  { State.reset with
    evtPending := true, evtName := 0x4142#16, evtLen := 1#16, evtErr := 1#2, evtKind := 1#1, buffer := [(0, 0x81#8)] }

-- R100, R101
theorem test_seekSync : after (exec .seekSync (inPhase Phase.seek)) State.phase = some Phase.sync := by decide
theorem test_seekNoise : exec (.seekNoise 0x1B#8) (inPhase Phase.seek) = .next (inPhase Phase.seek) := rfl
-- V37
theorem test_rsvdAsSeekSync : after (exec (.rsvdAsSeekSync 0x9#4) (inPhase 0x9#4)) State.phase = some 0x1#4 := by decide
theorem test_rsvdAsSeekNoise :
    after (exec (.rsvdAsSeekNoise 0xC#4 0x17#8) (inPhase 0xC#4)) State.phase = some 0x0#4 := by decide
-- R102, R103, R104
theorem test_syncMore : after (exec .syncMore (inPhase Phase.sync)) State.phase = some 0x1#4 := by decide
theorem test_syncEsc : after (exec .syncEsc (inPhase Phase.sync)) State.phase = some 0x2#4 := by decide
theorem test_syncDesync : after (exec (.syncDesync 0x17#8) (inPhase Phase.sync)) State.phase = some 0x0#4 := by decide
-- R110, V16
theorem test_lenHiLoad : after (exec (.lenHiLoad 0x12#8) (inPhase Phase.lenHi)) State.expLen = some 0x1200#16 := by decide
theorem test_lenHiLoad_keeps_low_byte :
    after (exec (.lenHiLoad 0x12#8) { inPhase Phase.lenHi with expLen := 0xAB34#16 }) State.expLen = some 0x1234#16 := by decide
-- R111, V16: the carry into the high byte, and the wrap
theorem test_lenLoLoad_carries : after (exec (.lenLoLoad 0xFF#8) (inPhase Phase.lenLo)) State.expLen = some 0x0100#16 := by decide
theorem test_lenLoLoad_wraps :
    after (exec (.lenLoLoad 0xFF#8) { inPhase Phase.lenLo with expLen := 0xFF00#16 }) State.expLen = some 0#16 := by decide
-- R112, R113, V18
theorem test_name1Load : after (exec (.name1Load 0x41#8) (inPhase Phase.name1)) State.name0 = some 0x41#8 := by decide
theorem test_name2Load_empty : after (exec (.name2Load 0x42#8) (inPhase Phase.name2)) State.phase = some 0x7#4 := by decide
theorem test_name2Load_data :
    after (exec (.name2Load 0x42#8) { inPhase Phase.name2 with expLen := 5#16 }) State.phase = some 0x6#4 := by decide
-- R120
theorem test_dataAppend_last :
    after (exec (.dataAppend 0x05#8) lastByte) (fun t => (t.phase, t.count, t.checksum, t.buffer.load 4#16)) =
      some (0x7#4, 5#16, 0x0F#8, .written 0x05#8) := by decide
theorem test_dataAppend_high_bit :
    after (exec (.dataAppend 0xFF#8) { lastByte with expLen := 9#16 }) (fun t => (t.phase, t.checksum, t.kind)) =
      some (0x6#4, 0x09#8, 1#1) := by decide
-- R131
theorem test_trailerOk : after (exec .trailerOk (inPhase Phase.trailer)) State.phase = some 0x8#4 := by decide
-- R132
theorem test_trailerErr :
    after (exec (.trailerErr 0x16#8) { atCksum with phase := Phase.trailer })
      (fun t => (t.evtPending, t.evtName, t.evtLen, t.evtErr, t.phase)) =
      some (true, 0x4142#16, 5#16, 1#2, 0x0#4) := by decide
-- R133, R134
theorem test_cksumOk :
    after (exec (.cksumOk 0x0F#8) atCksum) (fun t => (t.evtErr, t.evtPending, t.phase, t.count)) =
      some (0#2, true, 0x0#4, 0#16) := by decide
theorem test_cksumErr :
    after (exec (.cksumErr 0xFF#8) atCksum) (fun t => (t.evtErr, t.evtPending, t.phase, t.checksum)) =
      some (2#2, true, 0x0#4, 0#8) := by decide
-- R83, V32
theorem test_reset_clears :
    after (exec .reset { atCksum with evtPending := true, evtLen := 5#16 })
      (fun t => (t.phase, t.count, t.evtPending, t.evtLen)) = some (0x0#4, 0#16, false, 0#16) := by decide
theorem test_reset_keeps_name_and_buffer :
    after (exec .reset lastByte) (fun t => (t.name0, t.name1, t.buffer)) = some (0x41#8, 0x42#8, lastByte.buffer) := by decide
-- R84, V34, V35
theorem test_begin_keeps_event_registers :
    after (exec .beginStream pending) (fun t => (t.evtPending, t.evtName, t.evtLen)) = some (false, 0x4142#16, 1#16) := by decide
theorem test_begin_mid_block :
    after (exec .beginStream { inPhase Phase.name2 with expLen := 5#16 }) (fun t => (t.phase, t.expLen)) =
      some (0x0#4, 0#16) := by decide
-- R86, R87, R89
theorem test_evtHold : exec .evtHold pending = .next pending := rfl
theorem test_evtAck : exec .evtAck pending = .next { pending with evtPending := false } := rfl
theorem test_idle : exec .idle (inPhase Phase.lenLo) = .next (inPhase Phase.lenLo) := rfl
-- R85, R90; V37, last row: `CKSUM` with the sync byte as a right checksum is row 13, not row 15
theorem test_feed_seek : after (exec (.feed 0x16#8) (inPhase Phase.seek)) State.phase = some 0x1#4 := by decide
theorem test_feed_cksum_is_not_reserved :
    after (exec (.feed 0x16#8) { inPhase Phase.cksum with checksum := 0x16#8 }) (fun t => (t.phase, t.evtErr, t.evtPending)) =
      some (0x0#4, 0#2, true) := by decide
-- R88
theorem test_bufRead : after (exec (.bufRead 4#16) atCksum) State.rdData = some (.written 0x05#8) := by decide
theorem test_bufRead_never_written :
    after (exec (.bufRead 0xFFFF#16) atCksum) State.rdData = some (.powerOn 0xFFFF#16) := by decide

/-! ### One step -/

-- R88, V36: in the cycle of a write the read port shows the old byte
theorem test_step_read_shows_old_byte :
    after (step { State.offering lastByte 0x05#8 with buffer := [(4, 0x99#8)], pins :=
        { Pins.quiet with inValid := true, inData := 0x05#8, rdAddr := 4#16 } })
      (fun t => (t.rdData, t.buffer.load 4#16)) = some (.written 0x99#8, .written 0x05#8) := by decide
-- R81, V33: a byte offered with `rst` is not accepted
theorem test_step_reset_refuses_byte :
    after (step { State.reset with pins := { Pins.quiet with rst := true, inValid := true, inData := 0x16#8 } }) State.phase =
      some 0x0#4 := by decide
-- R82: the next cycle's inputs follow
theorem test_step_takes_next_inputs :
    after (step { State.reset with coming := [{ Pins.quiet with evtReady := true }] }) (fun t => (t.pins.evtReady, t.coming)) =
      some (true, []) := by decide
-- the word of `LEN_HI_LOAD`, placed and run as the first instruction after reset
theorem test_placed_word_runs :
    after (step (State.reset.withFetchWord 16 0x212)) (fun t => (t.phase, t.expLen)) = some (0x3#4, 0x1200#16) := by decide
theorem test_placed_port_word_runs :
    after (step (State.reset.withFetchWord 8 0x06)) State.evtPending = some false := by decide
-- R28, V38
theorem test_reset_outputs : (State.reset.outputs.inReady, State.reset.outputs.evtValid) = (true, false) := by decide

/-! ### Witnesses: the hypotheses of each statement can be met -/

theorem witness_DecodeEncodeRoundTrip :
    Instr.wellFormed (.cksumErr 0x16#8) = true ∧ Instr.stateCondition 0x15#8 (.cksumErr 0x16#8) = true := by decide
theorem witness_DecodeEncodeRoundTrip_reserved :
    Instr.wellFormed (.rsvdAsSeekNoise 0x9#4 0x17#8) = true ∧ Instr.stateCondition 0#8 (.rsvdAsSeekNoise 0x9#4 0x17#8) = true := by
  decide

/-- A block that is offered `ESC` in `SYNC`. -/
def offeredEsc : State := State.offering (inPhase Phase.sync) 0x1B#8

theorem witness_StepRunsDecodedInstruction :
    exec (decodePort offeredEsc.portKey offeredEsc.pins.inData) { offeredEsc with rdData := offeredEsc.buffer.load offeredEsc.pins.rdAddr } =
      .next { offeredEsc with phase := 0x2#4, rdData := .powerOn 0#16 } ∧
    offeredEsc.accepted = some 0x1B#8 ∧
    exec (decodeToken (offeredEsc.phase ++ 0x1B#8) offeredEsc.checksum)
        { offeredEsc with rdData := offeredEsc.buffer.load offeredEsc.pins.rdAddr } =
      .next { offeredEsc with phase := 0x2#4, rdData := .powerOn 0#16 } := ⟨rfl, rfl, rfl⟩
theorem witness_OneOperationPerCycle :
    exec offeredEsc.command { offeredEsc with rdData := offeredEsc.buffer.load offeredEsc.pins.rdAddr } =
      .next { offeredEsc with phase := 0x2#4, rdData := .powerOn 0#16 } := rfl

/-- Reset with the word of a table row placed. -/
def placed (nbits w : Nat) : State := State.reset.withFetchWord nbits w

theorem witness_PlacedWordIsRunNext_port :
    decodeTableWord 1 0x1F = some .reset ∧
    exec .reset { placed 1 0x1F with rdData := (placed 1 0x1F).buffer.load (placed 1 0x1F).pins.rdAddr } =
      .next { placed 1 0x1F with evtPending := false, rdData := .powerOn 0#16 } := ⟨rfl, rfl⟩
theorem witness_PlacedWordIsRunNext_token :
    decodeTableWord 9 0xFFF = some (.rsvdAsSeekNoise 0xF#4 0xFF#8) ∧
    exec (.rsvdAsSeekNoise 0xF#4 0xFF#8) { placed 9 0xFFF with rdData := (placed 9 0xFFF).buffer.load (placed 9 0xFFF).pins.rdAddr } =
      .next { placed 9 0xFFF with phase := 0x0#4, rdData := .powerOn 0#16 } := ⟨by decide, rfl⟩

/-- The pending state with the given port values. -/
def pendingWith (p : Pins) : State := { pending with pins := p }

theorem witness_ResetOperation : (pendingWith { Pins.quiet with rst := true }).pins.rst = true := rfl
theorem witness_BeginOperation :
    (pendingWith { Pins.quiet with beginI := true }).pins.rst = false ∧
    (pendingWith { Pins.quiet with beginI := true }).pins.beginI = true := ⟨rfl, rfl⟩
theorem witness_EventPortOperations :
    pending.pins.rst = false ∧ pending.pins.beginI = false ∧ pending.evtPending = true := ⟨rfl, rfl, rfl⟩
theorem witness_IdleOperation :
    State.reset.pins.rst = false ∧ State.reset.pins.beginI = false ∧ State.reset.evtPending = false ∧
    State.reset.pins.inValid = false := ⟨rfl, rfl, rfl, rfl⟩
theorem witness_BufferReadOperation : step State.reset = .next State.reset := rfl
theorem witness_FeedRunsSelectedToken : offeredEsc.accepted = some 0x1B#8 := rfl

/-- A block in phase `p` that is offered byte `b`. -/
def offered (p : PhaseCode) (b : Byte) : State := State.offering (inPhase p) b

theorem witness_SeekTokens : (offered 0x0#4 0x16#8).accepted = some 0x16#8 ∧ (offered 0x0#4 0x16#8).phase = 0x0#4 := ⟨rfl, rfl⟩
theorem witness_SeekTokens_first_reserved :
    (offered 0x9#4 0x17#8).accepted = some 0x17#8 ∧ 9 ≤ (offered 0x9#4 0x17#8).phase.toNat := by decide
theorem witness_SeekTokens_last_reserved :
    (offered 0xF#4 0x16#8).accepted = some 0x16#8 ∧ 9 ≤ (offered 0xF#4 0x16#8).phase.toNat := by decide
theorem witness_SyncTokens : (offered 0x1#4 0x1B#8).accepted = some 0x1B#8 ∧ (offered 0x1#4 0x1B#8).phase = 0x1#4 := ⟨rfl, rfl⟩
theorem witness_LengthTokens_high : (offered 0x2#4 0xFF#8).accepted = some 0xFF#8 ∧ (offered 0x2#4 0xFF#8).phase = 0x2#4 := ⟨rfl, rfl⟩
theorem witness_LengthTokens_low : (offered 0x3#4 0xFF#8).accepted = some 0xFF#8 ∧ (offered 0x3#4 0xFF#8).phase = 0x3#4 := ⟨rfl, rfl⟩
theorem witness_NameTokens_first : (offered 0x4#4 0x00#8).accepted = some 0x00#8 ∧ (offered 0x4#4 0x00#8).phase = 0x4#4 := ⟨rfl, rfl⟩
theorem witness_NameTokens_second : (offered 0x5#4 0x00#8).accepted = some 0x00#8 ∧ (offered 0x5#4 0x00#8).phase = 0x5#4 := ⟨rfl, rfl⟩
theorem witness_DataAppendToken :
    (State.offering lastByte 0x80#8).accepted = some 0x80#8 ∧ (State.offering lastByte 0x80#8).phase = 0x6#4 ∧
    (3#16 : Addr) ≠ (State.offering lastByte 0x80#8).count := by decide
theorem witness_TrailerOkToken : (offered 0x7#4 0x17#8).accepted = some 0x17#8 ∧ (offered 0x7#4 0x17#8).phase = 0x7#4 := ⟨rfl, rfl⟩
theorem witness_EndingTokens_trailer :
    (offered 0x7#4 0x16#8).accepted = some 0x16#8 ∧ (offered 0x7#4 0x16#8).phase = 0x7#4 ∧ (0x16#8 : Byte) ≠ 0x17#8 := by decide
theorem witness_EndingTokens_checksum :
    (State.offering atCksum 0x0F#8).accepted = some 0x0F#8 ∧ (State.offering atCksum 0x0F#8).phase = 0x8#4 := ⟨rfl, rfl⟩
theorem witness_ReservedPhaseActsAsSeek : 9 ≤ (inPhase 0x9#4).phase.toNat ∧ 9 ≤ (inPhase 0xF#4).phase.toNat := by decide

theorem witness_NameAndBufferWriters_name0 :
    after (step (offered 0x4#4 0x41#8)) (fun t => decide (t.name0 ≠ (offered 0x4#4 0x41#8).name0)) = some true := by decide
theorem witness_NameAndBufferWriters_name1 :
    after (step (offered 0x5#4 0x41#8)) (fun t => decide (t.name1 ≠ (offered 0x5#4 0x41#8).name1)) = some true := by decide
theorem witness_NameAndBufferWriters_buffer :
    after (step (State.offering lastByte 0x05#8)) (fun t => decide (t.buffer ≠ lastByte.buffer)) = some true := by decide
theorem witness_NameAndBufferWriters_pending :
    step pending = .next { pending with rdData := .written 0x81#8 } ∧ pending.evtPending = true := ⟨rfl, rfl⟩
theorem witness_ContentClassIsSticky_sets :
    after (step (State.offering lastByte 0x80#8)) (fun t => decide (t.kind ≠ lastByte.kind)) = some true := by decide
theorem witness_ContentClassIsSticky_clears :
    after (step { State.offering atCksum 0x0F#8 with kind := 1#1 }) State.kind = some 0#1 := by decide
theorem witness_EventRegisterWriters_keeps :
    State.reset.pins.rst = false ∧ step State.reset = .next State.reset ∧ State.reset.emittedTo State.reset = none := ⟨rfl, rfl, rfl⟩
theorem witness_EventRegisterWriters_rises :
    (State.offering atCksum 0x0F#8).evtPending = false ∧
    after (step (State.offering atCksum 0x0F#8)) State.evtPending = some true := by decide
theorem witness_EventRegisterWriters_falls :
    (pendingWith { Pins.quiet with evtReady := true }).evtPending = true ∧
    after (step (pendingWith { Pins.quiet with evtReady := true })) State.evtPending = some false := by decide
theorem witness_EventsComeFromEndingBytes :
    after (step (State.offering atCksum 0x0F#8)) (fun t => (State.offering atCksum 0x0F#8).emittedTo t) =
      some (some { name0 := 0x41#8, name1 := 0x42#8, len := 5#16, payload := [0x01#8, 0x02#8, 0x03#8, 0x04#8, 0x05#8]
                   kind := 0#1, err := 0#2 }) := by decide
theorem witness_EventsComeFromEndingBytes_trailer :
    after (step (State.offering { atCksum with phase := Phase.trailer } 0x18#8))
      (fun t => ((State.offering { atCksum with phase := Phase.trailer } 0x18#8).emittedTo t).map Event.err) =
      some (some 1#2) := by decide
theorem witness_UnaskedBlockKeepsItsState_idle :
    ∀ p ∈ (inPhase Phase.lenLo).pins :: (inPhase Phase.lenLo).coming,
      p.rst = false ∧ p.beginI = false ∧ (if (inPhase Phase.lenLo).evtPending then p.evtReady = false else p.inValid = false) := by
  decide
theorem witness_UnaskedBlockKeepsItsState_pending :
    ∀ p ∈ (pendingWith { Pins.quiet with inValid := true }).pins :: (pendingWith { Pins.quiet with inValid := true }).coming,
      p.rst = false ∧ p.beginI = false ∧
        (if (pendingWith { Pins.quiet with inValid := true }).evtPending then p.evtReady = false else p.inValid = false) := by
  decide

/-- Two of two payload bytes to come, one in the buffer: `FF`, so the class is `OBJECT`. -/
def midPayload : State :=
  { State.reset with
    phase := Phase.data, expLen := 2#16, count := 1#16, checksum := 0xFF#8, kind := 1#1, buffer := [(0, 0xFF#8)] }

theorem witness_StepKeepsLegal : midPayload.Legal ∧ step midPayload = .next { midPayload with rdData := .written 0xFF#8 } := by
  refine ⟨?_, rfl⟩
  constructor <;> first | decide | (unfold State.inBlock; decide)
theorem witness_StepKeepsBufferCanonical :
    midPayload.buffer.wf = true ∧ step midPayload = .next { midPayload with rdData := .written 0xFF#8 } := ⟨rfl, rfl⟩

/-- Two Decoder States that seek and differ in the name and the buffer. -/
def seekingFresh : Decoder := State.reset.decoder
def seekingUsed : Decoder := pending.decoder

theorem witness_EventsHideOldNameAndBuffer : seekingFresh.seeking ∧ seekingUsed.seeking ∧ seekingFresh ≠ seekingUsed :=
  ⟨⟨rfl, rfl, rfl, rfl, rfl⟩, ⟨rfl, rfl, rfl, rfl, rfl⟩, by decide⟩
theorem witness_NoiseIsSilent : seekingUsed.phase = 0x0#4 ∧ ∀ b ∈ [0x1B#8, 0x17#8, 0x15#8], b ≠ (0x16#8 : Byte) := by decide
theorem witness_SyncRunLengthIndependence : seekingUsed.phase = 0x0#4 ∧ 1 ≤ 1 := by decide
theorem witness_HeaderTakesFourBytes : (inPhase Phase.lenHi).decoder.phase = 0x2#4 := rfl
theorem witness_ChecksumDetectsOneByte :
    [0x01#8, 0x02#8].Perm [0x02#8, 0x01#8] ∧ (0x03#8 : Byte) ≠ 0x07#8 := ⟨List.Perm.swap _ _ _, by decide⟩
theorem witness_FrameGivesItsEvent_empty : seekingUsed.seeking ∧ 1 ≤ 1 ∧ ([] : List Byte).length ≤ 65535 :=
  ⟨⟨rfl, rfl, rfl, rfl, rfl⟩, by decide, by decide⟩
theorem witness_FrameGivesItsEvent_largest : (List.replicate 65535 (0x01#8 : Byte)).length ≤ 65535 :=
  Nat.le_of_eq List.length_replicate
theorem witness_FrameGivesItsEvent_changed :
    [0x01#8, 0x03#8] = [0x01#8] ++ 0x03#8 :: ([] : List Byte) ∧ (0x03#8 : Byte) ≠ 0x07#8 := ⟨rfl, by decide⟩
theorem witness_FrameGivesItsEvent_end_marker : (0x16#8 : Byte) ≠ 0x17#8 ∧ (0x18#8 : Byte) ≠ 0x17#8 := by decide
theorem witness_ErrorClassOfAFrame : seekingUsed.seeking ∧ 1 ≤ 5 ∧ [0x80#8].length ≤ 65535 :=
  ⟨⟨rfl, rfl, rfl, rfl, rfl⟩, by decide, by decide⟩
theorem witness_TruncatedFrameGivesNoEvent :
    seekingUsed.seeking ∧ 8 < (frameWith 1 0x41#8 0x42#8 [0x01#8] 0x17#8 0x01#8).length :=
  ⟨⟨rfl, rfl, rfl, rfl, rfl⟩, by decide⟩
theorem witness_ConsecutiveBlocksAreRecovered :
    seekingUsed.seeking ∧
    ∀ k ∈ [StreamBlock.mk 1 0x43#8 0x31#8 [0x10#8, 0x20#8] 0x16#8 0x1B#8 [0x00#8],
           StreamBlock.mk 3 0x43#8 0x32#8 [0x30#8] 0x17#8 0x16#8 []],
      1 ≤ k.sync ∧ k.payload.length ≤ 65535 ∧ (k.endByte ≠ 0x17#8 → k.cksumByte ≠ 0x16#8) ∧ ∀ b ∈ k.pad, b ≠ 0x16#8 :=
  ⟨⟨rfl, rfl, rfl, rfl, rfl⟩, by decide⟩
theorem witness_SnapshotMargin :
    seekingUsed.seeking ∧ [0x16#8, 0x1B#8, 0x00#8, 0x00#8, 0x43#8, 0x43#8].length ≤ 6 :=
  ⟨⟨rfl, rfl, rfl, rfl, rfl⟩, by decide⟩

end Sys2Proof.Tests
end

section
/-! The proof of O42. First the rows of R61 as conditions on phase and byte, and what each row does to the Decoder
State (R90); then the relation between two Decoder States that no later event tells apart, which every byte keeps. -/

namespace Sys2Proof

/-! ### The row a phase and a byte select -/

theorem tokenKey_and (p : PhaseCode) (b : Byte) (k : TokenKey) :
    tokenKey p b &&& k = tokenKey (p &&& tokenPhase k) (b &&& tokenByte k) := by
  conv_lhs => rw [← tokenKey_parts k]
  exact BitVec.and_append

theorem tokenKey_eq_iff (p : PhaseCode) (b : Byte) (k : TokenKey) :
    tokenKey p b = k ↔ p = tokenPhase k ∧ b = tokenByte k := by
  constructor
  · rintro rfl
    simp
  · rintro ⟨rfl, rfl⟩
    exact tokenKey_parts k

/-- A phase code is one of the nine or reserved (R10, R11). -/
theorem phase_cases (p : PhaseCode) :
    p = Phase.seek ∨ p = Phase.sync ∨ p = Phase.lenHi ∨ p = Phase.lenLo ∨ p = Phase.name1 ∨ p = Phase.name2 ∨
      p = Phase.data ∨ p = Phase.trailer ∨ p = Phase.cksum ∨ Phase.firstReserved.ule p = true := by
  revert p
  decide

/-- The mask of rows 15 and 16 keeps bit 3, which every reserved code has (R67). -/
theorem and_eight_of_reserved (p : PhaseCode) : Phase.firstReserved.ule p = true → p &&& 8#4 = 8#4 := by
  revert p
  decide

/-- What a row of R61 asks of the phase, the byte and the checksum: its columns read by halves of the key. -/
def TokenRow.takes (p : PhaseCode) (b c : Byte) : TokenRow → Prop
  | .seekSync => p = Phase.seek ∧ b = Config.sync
  | .seekNoise => p = Phase.seek
  | .syncMore => p = Phase.sync ∧ b = Config.sync
  | .syncEsc => p = Phase.sync ∧ b = Config.esc
  | .syncDesync => p = Phase.sync
  | .lenHiLoad => p = Phase.lenHi
  | .lenLoLoad => p = Phase.lenLo
  | .name1Load => p = Phase.name1
  | .name2Load => p = Phase.name2
  | .dataAppend => p = Phase.data
  | .trailerOk => p = Phase.trailer ∧ b = Config.endMark
  | .trailerErr => p = Phase.trailer
  | .cksumOk => p = Phase.cksum ∧ b = c
  | .cksumErr => p = Phase.cksum ∧ b ≠ c
  | .rsvdAsSeekSync => Phase.firstReserved.ule p ∧ b = Config.sync
  | .rsvdAsSeekNoise => Phase.firstReserved.ule p

theorem TokenRow.hits_tokenKey_iff (p : PhaseCode) (b c : Byte) (r : TokenRow) :
    r.hits (tokenKey p b) c = true ↔ r.takes p b c := by
  have hp : p &&& 15#4 = p := BitVec.and_allOnes
  have hb : b &&& 255#8 = b := BitVec.and_allOnes
  have hr := and_eight_of_reserved p
  cases r <;>
    simp only [hits, mask, value, condition, takes, tokenKey_and, tokenKey_eq_iff, Bool.and_eq_true, beq_iff_eq,
      bne_iff_ne, tokenPhase_tokenKey, tokenByte_tokenKey, and_true] <;>
    simp [tokenPhase, tokenByte, Phase.seek, Phase.sync, Phase.lenHi, Phase.lenLo, Phase.name1, Phase.name2,
      Phase.data, Phase.trailer, Phase.cksum, Config.sync, Config.esc, Config.endMark, hp, hb]
  case rsvdAsSeekSync => tauto
  case rsvdAsSeekNoise => exact hr

theorem TokenRow.mem_order (r : TokenRow) : r ∈ TokenRow.order := by cases r <;> decide

/-- Every phase has a row for the bytes no other row names, so no byte is without one (R60, R66). -/
theorem exists_takes (p : PhaseCode) (b c : Byte) : ∃ r : TokenRow, r.takes p b c := by
  obtain h | h | h | h | h | h | h | h | h | h := phase_cases p
  · exact ⟨.seekNoise, h⟩
  · exact ⟨.syncDesync, h⟩
  · exact ⟨.lenHiLoad, h⟩
  · exact ⟨.lenLoLoad, h⟩
  · exact ⟨.name1Load, h⟩
  · exact ⟨.name2Load, h⟩
  · exact ⟨.dataAppend, h⟩
  · exact ⟨.trailerErr, h⟩
  · by_cases right : b = c
    · exact ⟨.cksumOk, h, right⟩
    · exact ⟨.cksumErr, h, right⟩
  · exact ⟨.rsvdAsSeekNoise, h⟩

/-- The row selected takes the phase, the byte and the checksum it was selected for (R61). -/
theorem takes_selectRow (p : PhaseCode) (b c : Byte) : (selectRow (tokenKey p b) c).takes p b c := by
  unfold selectRow
  cases first : TokenRow.order.find? (TokenRow.hits (tokenKey p b) c) with
  | some r => exact (r.hits_tokenKey_iff p b c).mp (List.find?_some first)
  | none =>
    obtain ⟨r, taken⟩ := exists_takes p b c
    exact absurd ((r.hits_tokenKey_iff p b c).mpr taken) (List.find?_eq_none.mp first r r.mem_order)

namespace Machine

/-! ### One byte at the byte level -/

/-- The event that `emit(e)` reports for the block in the Decoder State (R130). -/
def Decoder.report (d : Decoder) (e : ErrClass) : Event :=
  { name0 := d.name0
    name1 := d.name1
    len := d.count
    payload := d.buffer.bytes d.count.toNat
    kind := d.kind
    err := e.code }

/-- What each row of R61 does to the Decoder State, and the event it gives. -/
def Decoder.feedRow (d : Decoder) (b : Byte) : TokenRow → Decoder × Option Event
  | .seekSync | .syncMore | .rsvdAsSeekSync => ({ d with phase := Phase.sync }, none)
  | .seekNoise | .syncDesync | .rsvdAsSeekNoise => ({ d with phase := Phase.seek }, none)
  | .syncEsc => ({ d with phase := Phase.lenHi }, none)
  | .lenHiLoad => ({ d with expLen := withHighByte d.expLen b, phase := Phase.lenLo }, none)
  | .lenLoLoad => ({ d with expLen := payloadLength (declaredLength d.expLen b), phase := Phase.name1 }, none)
  | .name1Load => ({ d with name0 := b, phase := Phase.name2 }, none)
  | .name2Load => ({ d with name1 := b, phase := phaseAfterName d.expLen }, none)
  | .dataAppend =>
    ({ d with
        buffer := d.buffer.store d.count b
        count := d.count + 1#16
        checksum := checksumAfter d.checksum b
        kind := kindAfter d.kind b
        phase := phaseAfterData d.count d.expLen }, none)
  | .trailerOk => ({ d with phase := Phase.cksum }, none)
  | .trailerErr => (d.init, some (d.report .trailer))
  | .cksumOk => (d.init, some (d.report .none))
  | .cksumErr => (d.init, some (d.report .checksum))

/-- `emit(e)` reports the block in the Decoder State and runs `INIT()` on it (R130). -/
theorem Decoder.emit_toState (d : Decoder) (e : ErrClass) :
    ((d.toState.emit e).decoder, (d.toState.emit e).pendingEvent) = (d.init, some (d.report e)) := by
  have event : (d.toState.emit e).pendingEvent = some (d.report e) := by
    simp [State.pendingEvent, Decoder.report, packName]
  rw [event]
  rfl

/-- `feed` is the byte rule of the row that the phase and the byte select (R90, R92). -/
theorem Decoder.feed_eq (d : Decoder) (b : Byte) :
    d.feed b = d.feedRow b (selectRow (tokenKey d.phase b) d.checksum) := by
  unfold Decoder.feed feedByte
  simp only [State.tokenKey, Decoder.toState_phase, Decoder.toState_checksum]
  cases selectRow (tokenKey d.phase b) d.checksum
  case trailerErr | cksumOk | cksumErr => exact d.emit_toState _
  all_goals rfl

/-- The payload so far grows by the byte stored at `count`, until `count` wraps to an empty one (R120; entry 9). -/
theorem Memory.bytes_store_succ (m : Memory) (a : Addr) (b : Byte) :
    (m.store a b).bytes (a + 1#16).toNat = if a = 0xFFFF#16 then [] else m.bytes a.toNat ++ [b] := by
  split_ifs with top
  · simp [top]
  · have succ : (a + 1#16).toNat = a.toNat + 1 := by bv_omega
    rw [succ, Memory.bytes_store_next]

/-! ### Decoder States that no event tells apart -/

/-- The phases in which `name0` is the current block's (R112). -/
abbrev name0Loaded (p : PhaseCode) : Prop := p ∈ [Phase.name2, Phase.data, Phase.trailer, Phase.cksum]

/-- The phases in which `name1` is the current block's (R113). -/
abbrev name1Loaded (p : PhaseCode) : Prop := p ∈ [Phase.data, Phase.trailer, Phase.cksum]

theorem name0Loaded_of_name1Loaded {p : PhaseCode} (h : name1Loaded p) : name0Loaded p := List.mem_cons_of_mem _ h

/-- Agreement on all that belongs to the current block: the registers `INIT()` sets, the payload so far, and each name
byte once it is loaded. An older name and the rest of the buffer are free (R5, R14, R51). -/
structure Decoder.SameBlock (d e : Decoder) : Prop where
  phase : d.phase = e.phase
  expLen : d.expLen = e.expLen
  count : d.count = e.count
  checksum : d.checksum = e.checksum
  kind : d.kind = e.kind
  payload : d.buffer.bytes d.count.toNat = e.buffer.bytes e.count.toNat
  name0 : name0Loaded d.phase → d.name0 = e.name0
  name1 : name1Loaded d.phase → d.name1 = e.name1

namespace Decoder.SameBlock

variable {d e : Decoder}

theorem of_seeking (hd : d.seeking) (he : e.seeking) : d.SameBlock e := by
  obtain ⟨dphase, dexpLen, dcount, dchecksum, dkind⟩ := hd
  obtain ⟨ephase, eexpLen, ecount, echecksum, ekind⟩ := he
  have unloaded : ¬name0Loaded d.phase := by
    rw [dphase]
    decide
  exact
    { phase := dphase.trans ephase.symm
      expLen := dexpLen.trans eexpLen.symm
      count := dcount.trans ecount.symm
      checksum := dchecksum.trans echecksum.symm
      kind := dkind.trans ekind.symm
      payload := by rw [dcount, ecount]; rfl
      name0 := fun loaded => absurd loaded unloaded
      name1 := fun loaded => absurd (name0Loaded_of_name1Loaded loaded) unloaded }

/-- `INIT()` ends the block, so nothing of it is left to compare but the registers `INIT()` sets (R20). -/
theorem init (d e : Decoder) : d.init.SameBlock e.init :=
  of_seeking ⟨rfl, rfl, rfl, rfl, rfl⟩ ⟨rfl, rfl, rfl, rfl, rfl⟩

/-- In a phase before the name, the name is free. -/
theorem toUnnamed (h : d.SameBlock e) {p : PhaseCode} (unloaded : ¬name0Loaded p) :
    SameBlock { d with phase := p } { e with phase := p } :=
  { h with
    phase := rfl
    name0 := fun loaded => absurd loaded unloaded
    name1 := fun loaded => absurd (name0Loaded_of_name1Loaded loaded) unloaded }

/-- Once the whole name is loaded, a change of phase alone keeps the agreement. -/
theorem setPhase (h : d.SameBlock e) (loaded : name1Loaded d.phase) (p : PhaseCode) :
    SameBlock { d with phase := p } { e with phase := p } :=
  { h with
    phase := rfl
    name0 := fun _ => h.name0 (name0Loaded_of_name1Loaded loaded)
    name1 := fun _ => h.name1 loaded }

/-- A payload byte is stored at the same place in both, and extends both payloads alike (R120). -/
theorem append (h : d.SameBlock e) (b : Byte) (loaded : name1Loaded d.phase) :
    (d.feedRow b .dataAppend).1.SameBlock (e.feedRow b .dataAppend).1 where
  phase := congrArg₂ phaseAfterData h.count h.expLen
  expLen := h.expLen
  count := congrArg (· + 1#16) h.count
  checksum := congrArg (checksumAfter · b) h.checksum
  kind := congrArg (kindAfter · b) h.kind
  payload := by
    simp only [Decoder.feedRow]
    rw [Memory.bytes_store_succ, Memory.bytes_store_succ, h.payload, h.count]
  name0 := fun _ => h.name0 (name0Loaded_of_name1Loaded loaded)
  name1 := fun _ => h.name1 loaded

/-- Once the whole name is loaded, both blocks are reported as the same event (R130). -/
theorem report (h : d.SameBlock e) (loaded : name1Loaded d.phase) (c : ErrClass) : d.report c = e.report c := by
  unfold Decoder.report
  rw [h.payload, h.name0 (name0Loaded_of_name1Loaded loaded), h.name1 loaded, h.count, h.kind]

/-- Each row of R61 keeps the agreement and gives both the same event. The rows that report a block are tried only
when its whole name is loaded. -/
theorem feedRow (h : d.SameBlock e) {b : Byte} {r : TokenRow} (taken : r.takes d.phase b d.checksum) :
    (d.feedRow b r).1.SameBlock (e.feedRow b r).1 ∧ (d.feedRow b r).2 = (e.feedRow b r).2 := by
  cases r
  case seekSync | syncMore | rsvdAsSeekSync | seekNoise | syncDesync | rsvdAsSeekNoise | syncEsc =>
    exact ⟨h.toUnnamed (by decide), rfl⟩
  case lenHiLoad =>
    have expLen : withHighByte d.expLen b = withHighByte e.expLen b := by rw [h.expLen]
    exact ⟨{ h.toUnnamed (p := Phase.lenLo) (by decide) with expLen }, rfl⟩
  case lenLoLoad =>
    have expLen : payloadLength (declaredLength d.expLen b) = payloadLength (declaredLength e.expLen b) := by
      rw [h.expLen]
    exact ⟨{ h.toUnnamed (p := Phase.name1) (by decide) with expLen }, rfl⟩
  case name1Load =>
    have unloaded : ¬name1Loaded Phase.name2 := by decide
    exact ⟨{ h with phase := rfl, name0 := fun _ => rfl, name1 := fun loaded => absurd loaded unloaded }, rfl⟩
  case name2Load =>
    have name0 : d.name0 = e.name0 := h.name0 (by rw [taken]; decide)
    exact ⟨{ h with phase := congrArg phaseAfterName h.expLen, name0 := fun _ => name0, name1 := fun _ => rfl }, rfl⟩
  case dataAppend =>
    exact ⟨h.append b (by rw [taken]; decide), rfl⟩
  case trailerOk =>
    exact ⟨h.setPhase (by rw [taken.1]; decide) _, rfl⟩
  case trailerErr =>
    exact ⟨init d e, congrArg some (h.report (by rw [taken]; decide) _)⟩
  case cksumOk | cksumErr =>
    exact ⟨init d e, congrArg some (h.report (by rw [taken.1]; decide) _)⟩

/-- Every byte keeps the agreement and gives both the same event. -/
theorem feed (h : d.SameBlock e) (b : Byte) :
    (d.feed b).1.SameBlock (e.feed b).1 ∧ (d.feed b).2 = (e.feed b).2 := by
  rw [feed_eq, feed_eq, ← h.phase, ← h.checksum]
  exact h.feedRow (takes_selectRow d.phase b d.checksum)

theorem events_eq (h : d.SameBlock e) (xs : List Byte) : (d.feedAll xs).2 = (e.feedAll xs).2 := by
  induction xs generalizing d e with
  | nil => rfl
  | cons b bs ih =>
    obtain ⟨same, event⟩ := h.feed b
    simp only [Decoder.feedAll, event, ih same]

end Decoder.SameBlock

/-- Settles O42: two Decoder States that seek agree on the current block, of which there is nothing yet; every byte
keeps the agreement, and an event shows nothing else. -/
theorem eventsHideOldNameAndBuffer : Obligations.EventsHideOldNameAndBuffer :=
  fun _ _ xs h₁ h₂ => (Decoder.SameBlock.of_seeking h₁ h₂).events_eq xs

end Machine
end Sys2Proof
end

section
/-! The proofs of O30, O31 and O23 to O26, with O29. First what one clock edge can do, said once: the port operation
by the ports (R82), the state after each row of R61, and the five kinds of edge. Each statement is then a case split
over the kinds of edge. -/

namespace Sys2Proof
namespace Machine

/-! ### What an edge can do -/

/-- The port operation of a cycle, in the priority of R82. -/
theorem command_eq (s : State) :
    s.command =
      if s.pins.rst then .reset
      else if s.pins.beginI then .beginStream
      else if s.evtPending then (if s.pins.evtReady then .evtAck else .evtHold)
      else if s.pins.inValid then .feed s.pins.inData
      else .idle := by
  unfold State.command State.portKey
  cases s.pins.rst <;> cases s.pins.beginI <;> cases s.evtPending <;> cases s.pins.evtReady <;>
    cases s.pins.inValid <;> rfl

/-- The state after the byte `b` is accepted and row `r` of R61 is selected (R90). -/
def State.afterRow (s : State) (b : Byte) : TokenRow → State
  | .seekSync | .syncMore | .rsvdAsSeekSync => s.setPhase Phase.sync
  | .seekNoise | .syncDesync | .rsvdAsSeekNoise => s.setPhase Phase.seek
  | .syncEsc => s.setPhase Phase.lenHi
  | .lenHiLoad => (s.setExpLen (withHighByte s.expLen b)).setPhase Phase.lenLo
  | .lenLoLoad => (s.setExpLen (payloadLength (declaredLength s.expLen b))).setPhase Phase.name1
  | .name1Load => (s.setName0 b).setPhase Phase.name2
  | .name2Load => (s.setName1 b).setPhase (phaseAfterName s.expLen)
  | .dataAppend => (s.append b).setPhase (phaseAfterData s.count s.expLen)
  | .trailerOk => s.setPhase Phase.cksum
  | .trailerErr => s.emit .trailer
  | .cksumOk => s.emit .none
  | .cksumErr => s.emit .checksum

theorem feedByte_eq (b : Byte) (s : State) :
    feedByte b s = .next (s.afterRow b (selectRow (tokenKey s.phase b) s.checksum)) := by
  unfold feedByte
  simp only [State.tokenKey]
  cases selectRow (tokenKey s.phase b) s.checksum <;> rfl

theorem afterRow_showRead (s : State) (v : BufByte) (b : Byte) (r : TokenRow) :
    (s.showRead v).afterRow b r = (s.afterRow b r).showRead v := by
  cases r <;> rfl

/-- `name0` is written by its own row alone (R14, R112). -/
theorem afterRow_name0 (s : State) (b : Byte) (r : TokenRow) :
    (s.afterRow b r).name0 = if r = .name1Load then b else s.name0 := by
  cases r <;> rfl

/-- `name1` is written by its own row alone (R14, R113). -/
theorem afterRow_name1 (s : State) (b : Byte) (r : TokenRow) :
    (s.afterRow b r).name1 = if r = .name2Load then b else s.name1 := by
  cases r <;> rfl

/-- The buffer is written by `DATA_APPEND` alone, at `count` (R41, R48). -/
theorem afterRow_buffer (s : State) (b : Byte) (r : TokenRow) :
    (s.afterRow b r).buffer = if r = .dataAppend then s.buffer.store s.count b else s.buffer := by
  cases r <;> rfl

/-- A row reports the block with some error class, or it leaves the whole event port alone (R18, R19, R130). -/
theorem afterRow_event (s : State) (b : Byte) (r : TokenRow) :
    (∃ e, s.afterRow b r = s.emit e) ∨
      ((s.afterRow b r).evtPending = s.evtPending ∧ (s.afterRow b r).evtName = s.evtName ∧
        (s.afterRow b r).evtLen = s.evtLen ∧ (s.afterRow b r).evtKind = s.evtKind ∧
        (s.afterRow b r).evtErr = s.evtErr) := by
  cases r
  case trailerErr | cksumOk | cksumErr => exact .inl ⟨_, rfl⟩
  all_goals exact .inr ⟨rfl, rfl, rfl, rfl, rfl⟩

/-- A row reports the block, or appends a payload byte, or leaves `kind` alone (R17, R120, R130). -/
theorem afterRow_kind (s : State) (b : Byte) (r : TokenRow) :
    (∃ e, s.afterRow b r = s.emit e) ∨ (r = .dataAppend ∧ (s.afterRow b r).kind = kindAfter s.kind b) ∨
      (s.afterRow b r).kind = s.kind := by
  cases r
  case trailerErr | cksumOk | cksumErr => exact .inl ⟨_, rfl⟩
  case dataAppend => exact .inr (.inl ⟨rfl, rfl⟩)
  all_goals exact .inr (.inr rfl)

/-- What one clock edge does to the registers and the buffer, and when (R82 to R89): `RESET`, `BEGIN`, `EVT_ACK`, a
byte that is accepted with the row it selects, or nothing (`EVT_HOLD` and `IDLE`). The ports and the read shown are
not its subject. -/
inductive State.Edge (s : State) : State → Prop
  | reset (rst : s.pins.rst = true) : s.Edge s.initDecoder.dropEvent.clearEvent
  | restart (unreset : s.pins.rst = false) (begins : s.pins.beginI = true) : s.Edge s.initDecoder.dropEvent
  | ack (unreset : s.pins.rst = false) (unbegun : s.pins.beginI = false) (pending : s.evtPending = true)
      (ready : s.pins.evtReady = true) : s.Edge s.dropEvent
  | keep (unreset : s.pins.rst = false) (unbegun : s.pins.beginI = false)
      (unasked : if s.evtPending then s.pins.evtReady = false else s.pins.inValid = false) : s.Edge s
  | accept (b : Byte) (r : TokenRow) (accepted : s.accepted = some b) (taken : r.takes s.phase b s.checksum) :
      s.Edge (s.afterRow b r)

/-- A step is one edge; beside it only the model's own fields move: the read shown and the next cycle's inputs. -/
theorem step_edge {s t : State} (h : step s = .next t) :
    ∃ u, s.Edge u ∧ t = (u.showRead (s.buffer.load s.pins.rdAddr)).nextCycle := by
  obtain ⟨edge, run, rfl⟩ := step_eq_next h
  rw [command_eq] at run
  split_ifs at run with rst begins pending ready valid
  case pos => cases run; exact ⟨_, .reset rst, rfl⟩
  all_goals have unreset := eq_false_of_ne_true rst
  case pos => cases run; exact ⟨_, .restart unreset begins, rfl⟩
  all_goals have unbegun := eq_false_of_ne_true begins
  case pos => cases run; exact ⟨_, .ack unreset unbegun pending ready, rfl⟩
  case neg => cases run; exact ⟨_, .keep unreset unbegun (by simpa [pending] using ready), rfl⟩
  case pos =>
    have accepted : s.accepted = some s.pins.inData :=
      accepted_eq_some.mpr ⟨unreset, unbegun, eq_false_of_ne_true pending, valid, rfl⟩
    have fed : feedByte s.pins.inData (s.showRead (s.buffer.load s.pins.rdAddr)) = .next edge := run
    rw [feedByte_eq, afterRow_showRead] at fed
    cases fed
    exact ⟨_, .accept _ _ accepted (takes_selectRow _ _ _), rfl⟩
  case neg => cases run; exact ⟨_, .keep unreset unbegun (by simpa [pending] using valid), rfl⟩

theorem not_pending_of_accepted {s : State} {b : Byte} (h : s.accepted = some b) : s.evtPending = false := by
  obtain ⟨-, -, quiet, -, -⟩ := accepted_eq_some.mp h
  exact quiet

theorem emittedTo_eq_none_iff (s t : State) :
    s.emittedTo t = none ↔ s.evtPending = true ∨ t.evtPending = false := by
  unfold State.emittedTo State.pendingEvent
  cases s.evtPending <;> cases t.evtPending <;> simp

/-! ### The content class, byte by byte -/

/-- Bit 7 of a byte says whether it is at least 0x80 (R122). -/
theorem highBit_eq (b : Byte) : highBit b = if 128 ≤ b.toNat then Kind.object else Kind.text := by
  revert b
  decide

/-- The class of the payload so far grows with the byte appended (R17, R122). -/
theorem contentClass_append_one (bs : List Byte) (b : Byte) :
    contentClass (bs ++ [b]) = kindAfter (contentClass bs) b := by
  unfold contentClass kindAfter
  rw [highBit_eq, List.any_append]
  cases bs.any fun b => 128 ≤ b.toNat <;> by_cases high : 128 ≤ b.toNat <;>
    simp [high, Kind.object, Kind.text]

/-- A byte that changes the class has bit 7 set, and the class is `OBJECT` from then on (R17). -/
theorem kindAfter_ne {k : BitVec 1} {b : Byte} (h : kindAfter k b ≠ k) :
    kindAfter k b = Kind.object ∧ 128 ≤ b.toNat := by
  unfold kindAfter at h ⊢
  rw [highBit_eq] at h ⊢
  by_cases high : 128 ≤ b.toNat
  · rw [if_pos high]
    have sticky : ∀ k : BitVec 1, k ||| Kind.object = Kind.object := by decide
    exact ⟨sticky k, high⟩
  · rw [if_neg high] at h
    exact absurd BitVec.or_zero h

/-! ### The invariants -/

/-- The phases up to the name, in which nothing is counted (R25, R26). -/
abbrev beforePayload (p : PhaseCode) : Prop :=
  p ∈ [Phase.seek, Phase.sync, Phase.lenHi, Phase.lenLo, Phase.name1, Phase.name2]

theorem not_legal_of_reserved : ∀ {p : PhaseCode}, Phase.firstReserved.ule p = true → ¬p.toNat ≤ 8 := by decide

theorem legal_code_of_beforePayload : ∀ {p : PhaseCode}, beforePayload p → p.toNat ≤ 8 := by decide

theorem not_block_of_beforePayload :
    ∀ {p : PhaseCode}, beforePayload p → ¬(p = Phase.data ∨ p = Phase.trailer ∨ p = Phase.cksum) := by decide

theorem lowByte_withHighByte (w : Word) (b : Byte) : lowByte (withHighByte w b) = lowByte w := lowByte_bigEndian _ _

theorem errCode_ne_three : ∀ e : ErrClass, e.code ≠ 3#2
  | .none | .trailer | .checksum => by decide

namespace State.Legal

variable {s u : State}

/-- Before the payload the registers hold their initial values, whatever the name; the event port and the buffer are
as they were (R26). A pending event asks for `SEEK` (R28). -/
theorem toHeader (h : s.Legal) {p : PhaseCode} {len c : Word} {n0 n1 x : Byte} {k : BitVec 1}
    (header : beforePayload p) (pending_seek : s.evtPending = true → p = Phase.seek)
    (initial : c = 0#16 ∧ x = 0#8 ∧ k = Kind.text)
    (no_length : p = Phase.seek ∨ p = Phase.sync ∨ p = Phase.lenHi → len = 0#16)
    (half_length : p = Phase.lenLo → lowByte len = 0#8) :
    State.Legal
      { s with phase := p, expLen := len, count := c, name0 := n0, name1 := n1, checksum := x, kind := k } :=
  have outside := not_block_of_beforePayload header
  { h with
    phase_legal := legal_code_of_beforePayload header
    count_le := fun inside => absurd inside outside
    before_payload := fun _ => initial
    no_length
    half_length
    checksum_sum := fun inside => absurd inside outside
    kind_class := fun inside => absurd inside outside
    payload_complete := fun inside => absurd (.inr inside) outside
    payload_open := fun inside => absurd (.inl inside) outside
    pending_seek }

/-- `INIT()` ends the block; the event port and the payload it shows stay (R20, R26). -/
theorem initDecoder (h : s.Legal) : s.initDecoder.Legal :=
  h.toHeader (by decide) (fun _ => rfl) ⟨rfl, rfl, rfl⟩ (fun _ => rfl) (fun _ => rfl)

/-- With no event pending nothing is asked of the phase and the payload on its account (R28). -/
theorem dropEvent (h : s.Legal) : s.dropEvent.Legal :=
  { h with
    pending_seek := Bool.noConfusion
    pending_class := Bool.noConfusion }

theorem clearEvent (h : s.Legal) (quiet : s.evtPending = false) : s.clearEvent.Legal :=
  have unasked : s.clearEvent.evtPending ≠ true := by simp [quiet]
  { h with
    pending_class := fun pending => absurd pending unasked
    err_legal := errCode_ne_three .none }

/-- The event reported takes over the class of the payload, which is complete in the buffer (R27, R28, R130). -/
theorem emit (h : s.Legal) (inside : s.inBlock) (e : ErrClass) : (s.emit e).Legal :=
  { h.initDecoder with
    pending_seek := fun _ => rfl
    pending_class := fun _ => h.kind_class inside
    err_legal := errCode_ne_three e }

/-- From the name on, the phase says whether the payload is complete (R113, R120), and the registers reflect the
payload bytes so far (R25, R27). -/
theorem of_payload (quiet : u.evtPending = false)
    (phase : u.phase = if u.count = u.expLen then Phase.trailer else Phase.data)
    (count_le : u.count.toNat ≤ u.expLen.toNat)
    (checksum_sum : u.checksum = byteSum (u.buffer.bytes u.count.toNat))
    (kind_class : u.kind = contentClass (u.buffer.bytes u.count.toNat))
    (err_legal : u.evtErr ≠ 3#2) (top_unwritten : u.buffer.load 0xFFFF#16 = .powerOn 0xFFFF#16)
    (buffer_wf : u.buffer.wf = true) : u.Legal := by
  have inside : u.inBlock := by
    unfold inBlock
    rw [phase]
    split_ifs <;> decide
  have late : ¬beforePayload u.phase := fun early => not_block_of_beforePayload early inside
  have unasked : u.evtPending ≠ true := by simp [quiet]
  exact
    { phase_legal := by rw [phase]; split_ifs <;> decide
      count_le := fun _ => count_le
      before_payload := fun outside => absurd inside outside
      no_length := fun early => absurd (by simp only [List.mem_cons]; tauto) late
      half_length := fun early => absurd (by simp only [List.mem_cons]; tauto) late
      checksum_sum := fun _ => checksum_sum
      kind_class := fun _ => kind_class
      payload_complete := fun ended => by
        by_contra unfinished
        rw [phase, if_neg unfinished] at ended
        exact absurd ended (by decide)
      payload_open := fun data => by
        refine Nat.lt_of_le_of_ne count_le fun full => ?_
        rw [phase, if_pos (BitVec.eq_of_toNat_eq full)] at data
        exact absurd data (by decide)
      pending_seek := fun pending => absurd pending unasked
      pending_class := fun pending => absurd pending unasked
      err_legal
      top_unwritten
      buffer_wf }

/-- The second name byte opens the payload, of which there is nothing yet (R113). -/
theorem name2Load (h : s.Legal) (quiet : s.evtPending = false) (phase : s.phase = Phase.name2) (b : Byte) :
    (s.afterRow b .name2Load).Legal := by
  obtain ⟨count, checksum, kind⟩ := h.before_payload (not_block_of_beforePayload (phase ▸ by decide))
  refine of_payload quiet ?_ ?_ ?_ ?_ h.err_legal h.top_unwritten h.buffer_wf
  · simp only [State.afterRow, phaseAfterName, State.setPhase_phase, State.setPhase_count, State.setPhase_expLen,
      State.setName1_count, State.setName1_expLen, count, eq_comm]
  · simp [State.afterRow, count]
  · simp [State.afterRow, count, checksum]
  · simp [State.afterRow, count, kind]

/-- A payload byte extends the payload, its checksum and its class by that byte. It is stored below `exp_len`, so
never at 0xFFFF (R27, R52, R120). -/
theorem dataAppend (h : s.Legal) (quiet : s.evtPending = false) (phase : s.phase = Phase.data) (b : Byte) :
    (s.afterRow b .dataAppend).Legal := by
  have inside : s.inBlock := .inl phase
  have room : s.count.toNat < s.expLen.toNat := h.payload_open phase
  have succ : (s.count + 1#16).toNat = s.count.toNat + 1 := by bv_omega
  have below_top : 0xFFFF#16 ≠ s.count := by bv_omega
  have payload : (s.buffer.store s.count b).bytes (s.count + 1#16).toNat = s.buffer.bytes s.count.toNat ++ [b] := by
    rw [succ, Memory.bytes_store_next]
  refine of_payload quiet rfl (succ ▸ room) ?_ ?_ h.err_legal ?_ (Memory.wf_store _ _ _ h.buffer_wf)
  · calc checksumAfter s.checksum b
        = byteSum (s.buffer.bytes s.count.toNat ++ [b]) := by rw [h.checksum_sum inside, byteSum_append_one]
      _ = byteSum ((s.buffer.store s.count b).bytes (s.count + 1#16).toNat) := by rw [payload]
  · calc kindAfter s.kind b
        = contentClass (s.buffer.bytes s.count.toNat ++ [b]) := by rw [h.kind_class inside, contentClass_append_one]
      _ = contentClass ((s.buffer.store s.count b).bytes (s.count + 1#16).toNat) := by rw [payload]
  · exact (Memory.load_store_other s.buffer b below_top).trans h.top_unwritten

/-- The end marker leaves the complete payload as it is (R131). -/
theorem trailerOk (h : s.Legal) (quiet : s.evtPending = false) (phase : s.phase = Phase.trailer) (b : Byte) :
    (s.afterRow b .trailerOk).Legal :=
  have inside : s.inBlock := .inr (.inl phase)
  have unasked : s.evtPending ≠ true := by simp [quiet]
  { h with
    phase_legal := Nat.le_refl 8
    count_le := fun _ => h.count_le inside
    before_payload := fun outside => absurd (.inr (.inr rfl)) outside
    no_length := fun early => absurd early (show ¬(Phase.cksum = _ ∨ Phase.cksum = _ ∨ Phase.cksum = _) by decide)
    half_length := fun early => absurd early (show Phase.cksum ≠ _ by decide)
    checksum_sum := fun _ => h.checksum_sum inside
    kind_class := fun _ => h.kind_class inside
    payload_complete := fun _ => h.payload_complete (.inl phase)
    payload_open := fun data => absurd data (show Phase.cksum ≠ _ by decide)
    pending_seek := fun pending => absurd pending unasked }

/-- While a frame is sought there is no length, and the next phase finds none (R26, R100 to R104). -/
theorem setPhase (h : s.Legal) (quiet : s.evtPending = false) (phase : s.phase = Phase.seek ∨ s.phase = Phase.sync)
    {p : PhaseCode} (hp : p = Phase.seek ∨ p = Phase.sync ∨ p = Phase.lenHi) : (s.setPhase p).Legal := by
  have outside : ¬s.inBlock := not_block_of_beforePayload (by obtain e | e := phase <;> simp [e])
  refine h.toHeader (by obtain rfl | rfl | rfl := hp <;> decide) (by simp [quiet]) (h.before_payload outside)
    (fun _ => h.no_length (phase.imp_right .inl)) (fun lenLo => ?_)
  subst lenLo
  exact absurd hp (by decide)

/-- Every row that a phase, a byte and the checksum can select keeps the invariants. -/
theorem afterRow (h : s.Legal) (quiet : s.evtPending = false) {b : Byte} {r : TokenRow}
    (taken : r.takes s.phase b s.checksum) : (s.afterRow b r).Legal := by
  have unasked : s.evtPending ≠ true := by simp [quiet]
  cases r
  case seekSync => exact h.setPhase quiet (.inl taken.1) (by decide)
  case seekNoise => exact h.setPhase quiet (.inl taken) (by decide)
  case syncMore | syncEsc => exact h.setPhase quiet (.inr taken.1) (by decide)
  case syncDesync => exact h.setPhase quiet (.inr taken) (by decide)
  case lenHiLoad =>
    have empty : s.expLen = 0#16 := h.no_length (.inr (.inr taken))
    exact h.toHeader (by decide) (fun pending => absurd pending unasked)
      (h.before_payload (not_block_of_beforePayload (taken ▸ by decide))) (fun early => absurd early (by decide))
      (fun _ => (lowByte_withHighByte _ b).trans (by rw [empty]; rfl))
  case lenLoLoad | name1Load =>
    exact h.toHeader (by decide) (fun pending => absurd pending unasked)
      (h.before_payload (not_block_of_beforePayload (taken ▸ by decide))) (fun early => absurd early (by decide))
      (fun lenLo => absurd lenLo (by decide))
  case name2Load => exact h.name2Load quiet taken b
  case dataAppend => exact h.dataAppend quiet taken b
  case trailerOk => exact h.trailerOk quiet taken.1 b
  case trailerErr => exact h.emit (.inr (.inl taken)) _
  case cksumOk | cksumErr => exact h.emit (.inr (.inr taken.1)) _
  case rsvdAsSeekSync => exact absurd h.phase_legal (not_legal_of_reserved taken.1)
  case rsvdAsSeekNoise => exact absurd h.phase_legal (not_legal_of_reserved taken)

theorem edge (h : s.Legal) (edge : s.Edge u) : u.Legal := by
  cases edge with
  | reset => exact h.initDecoder.dropEvent.clearEvent rfl
  | restart => exact h.initDecoder.dropEvent
  | ack => exact h.dropEvent
  | keep => exact h
  | accept b r accepted taken => exact h.afterRow (not_pending_of_accepted accepted) taken

end State.Legal

/-- Settles O29: nothing is counted, written or pending after reset. -/
theorem resetIsLegal : Obligations.ResetIsLegal := by
  have outside : ¬State.reset.inBlock := not_block_of_beforePayload (by decide)
  exact
    { phase_legal := by decide
      count_le := fun inside => absurd inside outside
      before_payload := fun _ => ⟨rfl, rfl, rfl⟩
      no_length := fun _ => rfl
      half_length := fun _ => rfl
      checksum_sum := fun inside => absurd inside outside
      kind_class := fun inside => absurd inside outside
      payload_complete := fun _ => rfl
      payload_open := fun data => absurd data (by decide)
      pending_seek := fun _ => rfl
      pending_class := fun _ => rfl
      err_legal := by decide
      top_unwritten := rfl
      buffer_wf := rfl }

/-- Settles O30: each kind of edge keeps the invariants, and they ask nothing of the ports or of the read shown. -/
theorem stepKeepsLegal : Obligations.StepKeepsLegal := by
  intro s t h run
  obtain ⟨u, edge, rfl⟩ := step_edge run
  exact { h.edge edge with }

/-- Settles O31: only a store of the buffer's own writes it, and a store keeps the form. -/
theorem stepKeepsBufferCanonical : Obligations.StepKeepsBufferCanonical := by
  intro s t wf run
  obtain ⟨u, edge, rfl⟩ := step_edge run
  cases edge with
  | accept b r accepted taken =>
    simp only [State.nextCycle_buffer, State.showRead_buffer, afterRow_buffer]
    split_ifs
    · exact Memory.wf_store _ _ _ wf
    · exact wf
  | _ => exact wf

/-! ### The reserved phases -/

/-- The row selected is the one that takes the phase, the byte and the checksum when no row before it does (R61). -/
theorem selectRow_eq_of_first {p : PhaseCode} {b c : Byte} {r : TokenRow} (before after : List TokenRow)
    (order : TokenRow.order = before ++ r :: after) (taken : r.takes p b c)
    (passed : ∀ q ∈ before, ¬q.takes p b c) :
    selectRow (tokenKey p b) c = r := by
  have misses : ∀ q ∈ before, (!q.hits (tokenKey p b) c) = true := fun q mem => by
    simpa [← q.hits_tokenKey_iff] using passed q mem
  have first : TokenRow.order.find? (TokenRow.hits (tokenKey p b) c) = some r :=
    List.find?_eq_some_iff_append.mpr ⟨(r.hits_tokenKey_iff p b c).mpr taken, before, after, order, misses⟩
  rw [selectRow, first, Option.getD_some]

theorem selectRow_seek (b c : Byte) :
    selectRow (tokenKey Phase.seek b) c = if b = Config.sync then .seekSync else .seekNoise := by
  split_ifs with sync
  · exact selectRow_eq_of_first [] _ rfl ⟨rfl, sync⟩ (by simp)
  · exact selectRow_eq_of_first [.seekSync] _ rfl rfl (by simp [TokenRow.takes, sync])

/-- The rows before the last two each ask for one of the nine phases (R61). -/
theorem takes_reserved {p : PhaseCode} (reserved : Phase.firstReserved.ule p = true) {b c : Byte} {q : TokenRow}
    (taken : q.takes p b c) : q = .rsvdAsSeekSync ∧ b = Config.sync ∨ q = .rsvdAsSeekNoise := by
  cases q
  case rsvdAsSeekSync => exact .inl ⟨rfl, taken.2⟩
  case rsvdAsSeekNoise => exact .inr rfl
  case seekSync | syncMore | syncEsc | trailerOk | cksumOk | cksumErr =>
    rw [taken.1] at reserved
    exact absurd reserved (by decide)
  all_goals
    rw [show p = _ from taken] at reserved
    exact absurd reserved (by decide)

/-- In a reserved phase the sync byte has the last row but one, and every other byte the last (R67). -/
theorem selectRow_reserved {p : PhaseCode} (reserved : Phase.firstReserved.ule p = true) (b c : Byte) :
    selectRow (tokenKey p b) c = if b = Config.sync then .rsvdAsSeekSync else .rsvdAsSeekNoise := by
  split_ifs with sync
  · refine selectRow_eq_of_first (TokenRow.order.take 14) _ rfl ⟨reserved, sync⟩ fun q mem taken => ?_
    obtain ⟨rfl, -⟩ | rfl := takes_reserved reserved taken <;> exact absurd mem (by decide)
  · refine selectRow_eq_of_first (TokenRow.order.take 15) _ rfl reserved fun q mem taken => ?_
    obtain ⟨-, isSync⟩ | rfl := takes_reserved reserved taken
    · exact sync isSync
    · exact absurd mem (by decide)

/-- Settles O23: both rows of a reserved phase write the phase that the rows of `SEEK` write (R11). -/
theorem reservedPhaseActsAsSeek : Obligations.ReservedPhaseActsAsSeek := by
  intro s b high
  have reserved : Phase.firstReserved.ule s.phase = true := by simpa [BitVec.ule, Phase.firstReserved] using high
  have here := feedByte_eq b s
  have there := feedByte_eq b (s.setPhase Phase.seek)
  rw [selectRow_reserved reserved] at here
  rw [State.setPhase_phase, selectRow_seek] at there
  calc feedByte b s = _ := here
    _ = _ := by split_ifs <;> rfl
    _ = feedByte b (s.setPhase Phase.seek) := there.symm

/-! ### What a step can and cannot change -/

/-- Settles O24: of the rows of R61 one writes `name0`, one `name1` and one the buffer, and no other edge writes
them; with an event pending no byte is accepted. -/
theorem nameAndBufferWriters : Obligations.NameAndBufferWriters := by
  intro s t run
  obtain ⟨u, edge, rfl⟩ := step_edge run
  cases edge with
  | accept b r accepted taken =>
    refine ⟨fun changed => ?_, fun changed => ?_, fun changed => ?_, fun pending => ?_⟩
    · obtain ⟨rfl, -⟩ := ite_ne_right_iff.mp (afterRow_name0 s b r ▸ changed)
      exact ⟨taken, accepted⟩
    · obtain ⟨rfl, -⟩ := ite_ne_right_iff.mp (afterRow_name1 s b r ▸ changed)
      exact ⟨taken, accepted⟩
    · obtain ⟨rfl, -⟩ := ite_ne_right_iff.mp (afterRow_buffer s b r ▸ changed)
      exact ⟨taken, b, accepted, append_load s b⟩
    · simp [not_pending_of_accepted accepted] at pending
  | _ => exact ⟨absurd rfl, absurd rfl, absurd rfl, fun _ => rfl⟩

/-- Settles O25: a payload byte can only raise `kind`, and every other edge that writes it runs `INIT()`. -/
theorem contentClassIsSticky : Obligations.ContentClassIsSticky := by
  intro s t run changed
  obtain ⟨u, edge, rfl⟩ := step_edge run
  cases edge with
  | reset rst => exact .inr ⟨rfl, rfl, rfl, rfl, .inl rst⟩
  | restart _ begins => exact .inr ⟨rfl, rfl, rfl, rfl, .inr (.inl begins)⟩
  | ack | keep => exact absurd rfl changed
  | accept b r accepted taken =>
    obtain ⟨e, reported⟩ | ⟨rfl, kind⟩ | same := afterRow_kind s b r
    · rw [reported]
      have emits : s.emittedTo ((s.emit e).showRead (s.buffer.load s.pins.rdAddr)).nextCycle ≠ none := by
        simp [emittedTo_eq_none_iff, not_pending_of_accepted accepted]
      exact .inr ⟨rfl, rfl, rfl, rfl, .inr (.inr emits)⟩
    · obtain ⟨object, high⟩ := kindAfter_ne (kind ▸ changed)
      exact .inl ⟨kind.trans object, taken, b, accepted, high⟩
    · exact absurd same changed

/-- Settles O26: a row that reports the block does so with no event pending, so it emits; every other edge but
`RESET` leaves the event registers, and only `RESET`, `BEGIN` and `EVT_ACK` drop a pending event. -/
theorem eventRegisterWriters : Obligations.EventRegisterWriters := by
  intro s t run
  obtain ⟨u, edge, rfl⟩ := step_edge run
  refine ⟨fun unreset silent => ?_, fun quiet pending => ?_, fun pending quiet => ?_⟩
  · cases edge with
    | reset rst => simp [unreset] at rst
    | restart | ack | keep => exact ⟨rfl, rfl, rfl, rfl⟩
    | accept b r accepted taken =>
      obtain ⟨e, reported⟩ | ⟨-, kept⟩ := afterRow_event s b r
      · simp [emittedTo_eq_none_iff, not_pending_of_accepted accepted, reported] at silent
      · exact kept
  · simpa [emittedTo_eq_none_iff, quiet] using pending
  · cases edge with
    | reset rst => exact .inl rst
    | restart _ begins => exact .inr (.inl begins)
    | ack _ _ _ ready => exact .inr (.inr ready)
    | keep => exact absurd pending (Bool.eq_false_iff.mp quiet)
    | accept b r accepted taken => simp [not_pending_of_accepted accepted] at pending

end Machine
end Sys2Proof
end

section
/-! The proofs of O1, O2, O3, O5, O8 and O9. First the instruction of a row by halves of its key, and the one fact about
R61 that the encoding turns on: of the rows that take a phase, a byte and a checksum, the first is the one whose
instruction is well-formed. Then what every instruction answers, and what a word placed on the ports runs. -/

namespace Sys2Proof

/-! ### The first row that matches -/

/-- A row matches every key, so the search of R61's order ends at the row selected (R60). -/
theorem find?_order_eq_some (k : TokenKey) (c : Byte) :
    TokenRow.order.find? (TokenRow.hits k c) = some (selectRow k c) := by
  cases first : TokenRow.order.find? (TokenRow.hits k c) with
  | some r => rw [selectRow, first, Option.getD_some]
  | none =>
    obtain ⟨r, taken⟩ := exists_takes (tokenPhase k) (tokenByte k) c
    have hit := (r.hits_tokenKey_iff _ _ _).mpr taken
    rw [tokenKey_parts] at hit
    exact absurd hit (List.find?_eq_none.mp first r r.mem_order)

/-- Settles O3: the row selected is where the search of the table's order stops. -/
theorem firstMatchingRowSelects : Obligations.FirstMatchingRowSelects := by
  intro k c
  obtain ⟨hit, before, after, order, missed⟩ := List.find?_eq_some_iff_append.mp (find?_order_eq_some k c)
  exact ⟨before, after, order, hit, fun r mem => by simpa using missed r mem⟩

/-! ### The instruction of a row -/

/-- The instruction of a row, its operands taken from the two halves of the key. -/
def TokenRow.instr (p : PhaseCode) (b : Byte) : TokenRow → Instr
  | .seekSync => .seekSync
  | .seekNoise => .seekNoise b
  | .syncMore => .syncMore
  | .syncEsc => .syncEsc
  | .syncDesync => .syncDesync b
  | .lenHiLoad => .lenHiLoad b
  | .lenLoLoad => .lenLoLoad b
  | .name1Load => .name1Load b
  | .name2Load => .name2Load b
  | .dataAppend => .dataAppend b
  | .trailerOk => .trailerOk
  | .trailerErr => .trailerErr b
  | .cksumOk => .cksumOk b
  | .cksumErr => .cksumErr b
  | .rsvdAsSeekSync => .rsvdAsSeekSync p
  | .rsvdAsSeekNoise => .rsvdAsSeekNoise p b

theorem TokenRow.assemble_tokenKey (p : PhaseCode) (b : Byte) (r : TokenRow) :
    r.assemble (tokenKey p b) = r.instr p b := by
  cases r <;> simp [assemble, instr]

theorem decodeToken_tokenKey (p : PhaseCode) (b c : Byte) :
    decodeToken (tokenKey p b) c = (selectRow (tokenKey p b) c).instr p b :=
  TokenRow.assemble_tokenKey p b _

/-- A row that takes a key loses none of its bits: what the operands leave out, the row fixes (R61). -/
theorem encode_instr {p : PhaseCode} {b c : Byte} {r : TokenRow} (taken : r.takes p b c) :
    encode (r.instr p b) = .token (tokenKey p b) := by
  cases r
  case seekSync | syncMore | syncEsc | trailerOk =>
    obtain ⟨rfl, rfl⟩ := taken
    rfl
  case cksumOk | cksumErr =>
    obtain ⟨rfl, -⟩ := taken
    rfl
  case rsvdAsSeekSync =>
    obtain ⟨-, rfl⟩ := taken
    rfl
  case rsvdAsSeekNoise => rfl
  all_goals
    obtain rfl : p = _ := taken
    rfl

/-- The state condition of an instruction is its row's (R61). -/
theorem stateCondition_instr {p : PhaseCode} {b c : Byte} {r : TokenRow} (taken : r.takes p b c) :
    (r.instr p b).stateCondition c = true := by
  cases r
  case cksumOk => exact beq_iff_eq.mpr taken.2
  case cksumErr => exact bne_iff_ne.mpr taken.2
  all_goals rfl

/-! ### Rows that share a phase -/

/-- The phase in which a row is tried, the reserved ones as the first of them. -/
def TokenRow.phase : TokenRow → PhaseCode
  | .seekSync | .seekNoise => Phase.seek
  | .syncMore | .syncEsc | .syncDesync => Phase.sync
  | .lenHiLoad => Phase.lenHi
  | .lenLoLoad => Phase.lenLo
  | .name1Load => Phase.name1
  | .name2Load => Phase.name2
  | .dataAppend => Phase.data
  | .trailerOk | .trailerErr => Phase.trailer
  | .cksumOk | .cksumErr => Phase.cksum
  | .rsvdAsSeekSync | .rsvdAsSeekNoise => Phase.firstReserved

theorem TokenRow.phase_of_takes {p : PhaseCode} {b c : Byte} {r : TokenRow} (taken : r.takes p b c) :
    r.phase = if Phase.firstReserved.ule p then Phase.firstReserved else p := by
  cases r
  case rsvdAsSeekSync => exact (if_pos taken.1).symm
  case rsvdAsSeekNoise => exact (if_pos taken).symm
  case seekSync | syncMore | syncEsc | trailerOk | cksumOk | cksumErr =>
    rw [taken.1]
    rfl
  all_goals
    obtain rfl : p = _ := taken
    rfl

/-- The pairs of rows tried in one phase, the one that is tried first in front. -/
def TokenRow.rivals : List (TokenRow × TokenRow) :=
  [(.seekSync, .seekNoise), (.syncMore, .syncEsc), (.syncMore, .syncDesync), (.syncEsc, .syncDesync),
   (.trailerOk, .trailerErr), (.cksumOk, .cksumErr), (.rsvdAsSeekSync, .rsvdAsSeekNoise)]

theorem TokenRow.order_rivals :
    TokenRow.order.Pairwise fun q r => q.phase = r.phase → (q, r) ∈ TokenRow.rivals := by
  decide

/-- What an earlier row takes is no operand of a later one (R61). -/
theorem TokenRow.not_takes_of_rival {p : PhaseCode} {b c : Byte} {q r : TokenRow} (rival : (q, r) ∈ TokenRow.rivals)
    (taken : r.takes p b c) (wf : (r.instr p b).wellFormed = true) : ¬q.takes p b c := by
  simp only [rivals, List.mem_cons, Prod.mk.injEq, List.not_mem_nil, or_false] at rival
  obtain ⟨rfl, rfl⟩ | ⟨rfl, rfl⟩ | ⟨rfl, rfl⟩ | ⟨rfl, rfl⟩ | ⟨rfl, rfl⟩ | ⟨rfl, rfl⟩ | ⟨rfl, rfl⟩ := rival
  · exact fun earlier => bne_iff_ne.mp wf earlier.2
  · exact fun earlier => absurd (earlier.2.symm.trans taken.2) (by decide)
  · exact fun earlier => bne_iff_ne.mp (Bool.and_eq_true_iff.mp wf).1 earlier.2
  · exact fun earlier => bne_iff_ne.mp (Bool.and_eq_true_iff.mp wf).2 earlier.2
  · exact fun earlier => bne_iff_ne.mp wf earlier.2
  · exact fun earlier => taken.2 earlier.2
  · exact fun earlier => bne_iff_ne.mp (Bool.and_eq_true_iff.mp wf).2 earlier.2

/-- The row selected is the one that takes the phase, the byte and the checksum and whose instruction is well-formed:
the operands an instruction may carry are those that no earlier row takes (R61). -/
theorem selectRow_eq_of_wellFormed {p : PhaseCode} {b c : Byte} {r : TokenRow} (taken : r.takes p b c)
    (wf : (r.instr p b).wellFormed = true) : selectRow (tokenKey p b) c = r := by
  obtain ⟨before, after, order⟩ := List.append_of_mem r.mem_order
  refine Machine.selectRow_eq_of_first before after order taken fun q mem takenToo => ?_
  have samePhase : q.phase = r.phase := (TokenRow.phase_of_takes takenToo).trans (TokenRow.phase_of_takes taken).symm
  have pairs := TokenRow.order_rivals
  rw [order] at pairs
  obtain ⟨-, -, rival⟩ := List.pairwise_append.mp pairs
  exact TokenRow.not_takes_of_rival (rival q mem r List.mem_cons_self samePhase) taken wf takenToo

/-- An operand that makes an instruction ill-formed belongs to another row. -/
theorem exists_takes_of_not_wellFormed {p : PhaseCode} {b c : Byte} {r : TokenRow} (taken : r.takes p b c)
    (ill : (r.instr p b).wellFormed ≠ true) :
    ∃ q : TokenRow, q ≠ r ∧ q.takes p b c ∧ (q.instr p b).wellFormed = true := by
  cases r
  case seekNoise =>
    have sync : b = Config.sync := by simpa [TokenRow.instr, Instr.wellFormed] using ill
    exact ⟨.seekSync, by decide, ⟨taken, sync⟩, rfl⟩
  case syncDesync =>
    by_cases sync : b = Config.sync
    · exact ⟨.syncMore, by decide, ⟨taken, sync⟩, rfl⟩
    · have esc : b = Config.esc := by simpa [TokenRow.instr, Instr.wellFormed, sync] using ill
      exact ⟨.syncEsc, by decide, ⟨taken, esc⟩, rfl⟩
  case trailerErr =>
    have ended : b = Config.endMark := by simpa [TokenRow.instr, Instr.wellFormed] using ill
    exact ⟨.trailerOk, by decide, ⟨taken, ended⟩, rfl⟩
  case rsvdAsSeekNoise =>
    have reserved : Phase.firstReserved.ule p = true := taken
    have sync : b = Config.sync := by simpa [TokenRow.instr, Instr.wellFormed, reserved] using ill
    exact ⟨.rsvdAsSeekSync, by decide, ⟨reserved, sync⟩, reserved⟩
  case rsvdAsSeekSync => exact absurd taken.1 ill
  all_goals exact absurd rfl ill

theorem wellFormed_selectRow (p : PhaseCode) (b c : Byte) :
    ((selectRow (tokenKey p b) c).instr p b).wellFormed = true := by
  by_contra ill
  obtain ⟨q, other, taken, wf⟩ := exists_takes_of_not_wellFormed (takes_selectRow p b c) ill
  exact other (selectRow_eq_of_wellFormed taken wf).symm

/-! ### Decoder and encoder -/

theorem decode_encode_instr {p : PhaseCode} {b c : Byte} {r : TokenRow} (taken : r.takes p b c)
    (wf : (r.instr p b).wellFormed = true) : decode c (encode (r.instr p b)) = r.instr p b :=
  calc decode c (encode (r.instr p b))
      = decodeToken (tokenKey p b) c := by rw [encode_instr taken]; rfl
    _ = (selectRow (tokenKey p b) c).instr p b := decodeToken_tokenKey p b c
    _ = r.instr p b := by rw [selectRow_eq_of_wellFormed taken wf]

/-- Settles O1: a byte token is the instruction of a row that takes its key; a port command and a read are decoded from
the bits they are written with. -/
theorem decodeEncodeRoundTrip : Obligations.DecodeEncodeRoundTrip := by
  intro i c wf condition
  cases i with
  | seekSync => exact decode_encode_instr (r := .seekSync) (p := Phase.seek) (b := Config.sync) ⟨rfl, rfl⟩ wf
  | seekNoise b => exact decode_encode_instr (r := .seekNoise) (p := Phase.seek) rfl wf
  | syncMore => exact decode_encode_instr (r := .syncMore) (p := Phase.sync) (b := Config.sync) ⟨rfl, rfl⟩ wf
  | syncEsc => exact decode_encode_instr (r := .syncEsc) (p := Phase.sync) (b := Config.esc) ⟨rfl, rfl⟩ wf
  | syncDesync b => exact decode_encode_instr (r := .syncDesync) (p := Phase.sync) rfl wf
  | lenHiLoad h => exact decode_encode_instr (r := .lenHiLoad) (p := Phase.lenHi) rfl wf
  | lenLoLoad l => exact decode_encode_instr (r := .lenLoLoad) (p := Phase.lenLo) rfl wf
  | name1Load n => exact decode_encode_instr (r := .name1Load) (p := Phase.name1) rfl wf
  | name2Load n => exact decode_encode_instr (r := .name2Load) (p := Phase.name2) rfl wf
  | dataAppend d => exact decode_encode_instr (r := .dataAppend) (p := Phase.data) rfl wf
  | trailerOk =>
    exact decode_encode_instr (r := .trailerOk) (p := Phase.trailer) (b := Config.endMark) ⟨rfl, rfl⟩ wf
  | trailerErr b => exact decode_encode_instr (r := .trailerErr) (p := Phase.trailer) rfl wf
  | cksumOk x =>
    exact decode_encode_instr (r := .cksumOk) (p := Phase.cksum) ⟨rfl, beq_iff_eq.mp condition⟩ wf
  | cksumErr x =>
    exact decode_encode_instr (r := .cksumErr) (p := Phase.cksum) ⟨rfl, bne_iff_ne.mp condition⟩ wf
  | rsvdAsSeekSync p => exact decode_encode_instr (r := .rsvdAsSeekSync) (b := Config.sync) ⟨wf, rfl⟩ wf
  | rsvdAsSeekNoise p b =>
    have reserved : Phase.firstReserved.ule p = true := (Bool.and_eq_true_iff.mp wf).1
    exact decode_encode_instr (r := .rsvdAsSeekNoise) reserved wf
  | reset | beginStream | evtAck | evtHold | feed | idle | bufRead => rfl

/-- Settles O2: the row selected takes its key, and its operands are those no earlier row takes. -/
theorem everyTokenKeyIsAnEncoding : Obligations.EveryTokenKeyIsAnEncoding := by
  intro k c
  obtain ⟨p, b, rfl⟩ : ∃ p b, k = tokenKey p b := ⟨_, _, (tokenKey_parts k).symm⟩
  have taken := takes_selectRow p b c
  rw [decodeToken_tokenKey]
  exact ⟨encode_instr taken, wellFormed_selectRow p b c, stateCondition_instr taken⟩

/-- Settles O5: closed keys, which the decoder evaluates. -/
theorem specWordsDecode : Obligations.SpecWordsDecode := by
  unfold Obligations.SpecWordsDecode
  decide

/-- The checksum has a part in the selection only in phase `CKSUM` (R61). -/
theorem selectRow_checksum {p : PhaseCode} (outside : p ≠ Phase.cksum) (b c x : Byte) :
    selectRow (tokenKey p b) c = selectRow (tokenKey p b) x := by
  have taken : (selectRow (tokenKey p b) x).takes p b c := by
    have selected := takes_selectRow p b x
    revert selected
    cases selectRow (tokenKey p b) x
    case cksumOk | cksumErr => exact fun selected => absurd selected.1 outside
    all_goals exact id
  exact selectRow_eq_of_wellFormed taken (wellFormed_selectRow p b x)

namespace Machine

/-! ### Instructions and steps that answer -/

/-- `FEED_BYTE` runs the byte token that the key `{phase, byte}` decodes to (R90). -/
theorem feedByte_eq_exec (b : Byte) (s : State) : feedByte b s = exec (s.token b) s := by
  unfold feedByte State.token State.tokenKey
  rw [decodeToken_tokenKey]
  cases selectRow (tokenKey s.phase b) s.checksum <;> rfl

/-- Every instruction has an effect, in every state (R4, R66). -/
theorem exec_answers (i : Instr) (s : State) : ∃ t, exec i s = .next t := by
  cases i
  case feed b => exact ⟨_, feedByte_eq b s⟩
  all_goals exact ⟨_, rfl⟩

/-- A step is the port operation of its cycle, when that answers (R82). -/
theorem step_of_exec_command {s t : State}
    (run : exec s.command (s.showRead (s.buffer.load s.pins.rdAddr)) = .next t) : step s = .next t.nextCycle := by
  rw [step_eq, run, andThen_next]

/-- Settles O8: the decoder answers an instruction for every key, and every instruction has an effect. -/
theorem noInstructionStops : Obligations.NoInstructionStops := by
  refine ⟨fun k c s => exec_answers _ s, fun p d s => exec_answers _ s, fun s => ?_⟩
  obtain ⟨t, run⟩ := exec_answers s.command (s.showRead (s.buffer.load s.pins.rdAddr))
  exact ⟨t.nextCycle, step_of_exec_command run⟩

/-! ### A word placed on the ports -/

/-- The five bits of a port command key, one above the other (R64). -/
theorem portKey_bits : ∀ p : PortKey,
    bit (p.getLsbD 4) ++ bit (p.getLsbD 3) ++ bit (p.getLsbD 2) ++ bit (p.getLsbD 1) ++ bit (p.getLsbD 0) = p := by
  decide

/-- The cycle in which a port command is placed runs it (R64; entry 5). -/
theorem place_port_command (s : State) (p : PortKey) (d : Byte) :
    (s.place (.port p d)).command = decodePort p d :=
  congrArg (decodePort · d) (portKey_bits p)

/-- A cycle that accepts a byte feeds it (R81, R82). -/
theorem command_of_accepted {s : State} {b : Byte} (accepted : s.accepted = some b) : s.command = .feed b := by
  obtain ⟨unreset, unbegun, quiet, valid, data⟩ := accepted_eq_some.mp accepted
  simp [command_eq, unreset, unbegun, quiet, valid, data]

/-- The byte token placed is the one its key decodes to with the checksum at its reset value (R61; entry 6). -/
theorem place_token_token (s : State) (k : TokenKey) :
    (s.place (.token k)).token (tokenByte k) = decodeToken k 0#8 := by
  obtain ⟨p, b, rfl⟩ : ∃ p b, k = tokenKey p b := ⟨_, _, (tokenKey_parts k).symm⟩
  simp only [State.token, State.tokenKey, State.place, tokenPhase_tokenKey, tokenByte_tokenKey, decodeToken_tokenKey]
  split_ifs with cksum
  · rfl
  · rw [selectRow_checksum cksum]

/-- A code with a key is run by the cycle in which it is placed; a read leaves the port operation as it is
(entry 5). -/
theorem step_place {s t : State} {c : Code} (keyed : ∀ a, c ≠ .read a)
    (run : exec (decode 0#8 c)
      ((s.place c).showRead ((s.place c).buffer.load (s.place c).pins.rdAddr)) = .next t) :
    step (s.place c) = .next t.nextCycle := by
  apply step_of_exec_command
  cases c with
  | token k =>
    rw [command_of_accepted (place_token_accepted s k)]
    refine (feedByte_eq_exec _ _).trans ?_
    rw [showRead_token, place_token_token]
    exact run
  | port p d =>
    rw [place_port_command]
    exact run
  | read a => exact absurd rfl (keyed a)

/-- A word that the decoder accepts is the code that `withFetchWord` places (entries 5, 11). -/
theorem withFetchWord_of_codeOfBits {nbits w : Nat} {c : Code} (coded : codeOfBits nbits w = .ok c) (s : State) :
    s.withFetchWord nbits w = s.place c := by
  unfold codeOfBits at coded
  unfold State.withFetchWord
  split_ifs at coded ⊢ <;> cases coded <;> rfl

/-- A word with bits in it is no read (entry 11). -/
theorem ne_read_of_codeOfBits {nbits w : Nat} {c : Code} (bits : 0 < nbits) (coded : codeOfBits nbits w = .ok c)
    (a : Addr) : c ≠ .read a := by
  unfold codeOfBits at coded
  rw [if_neg bits.ne'] at coded
  split_ifs at coded <;> cases coded <;> exact Code.noConfusion

theorem decodeTableWord_eq_some {nbits w : Nat} {i : Instr} (decoded : decodeTableWord nbits w = some i) :
    ∃ c, codeOfBits nbits w = .ok c ∧ decode 0#8 c = i := by
  unfold decodeTableWord at decoded
  cases coded : codeOfBits nbits w with
  | ok c =>
    rw [coded] at decoded
    exact ⟨c, rfl, Option.some.inj decoded⟩
  | error e =>
    rw [coded] at decoded
    cases decoded

/-- Settles O9: the word is a code, the code is placed, and the next cycle's port operation runs it. -/
theorem placedWordIsRunNext : Obligations.PlacedWordIsRunNext := by
  intro s t nbits w i bits decoded run
  obtain ⟨c, coded, rfl⟩ := decodeTableWord_eq_some decoded
  rw [withFetchWord_of_codeOfBits coded] at run ⊢
  exact step_place (ne_read_of_codeOfBits bits coded) run

end Machine
end Sys2Proof
end

section
/-! The proofs of O43, O4, O7, O15, O28, O6 and O10 to O14. First the port operation of one cycle: what is accepted, and
what the step is when an operation is selected (R82 to R89). Then the decoder as the case split of `FEED_BYTE` (R90).
Last the runs of cycles, each by one lemma about a single cycle and an induction over their number. -/

namespace Sys2Proof
namespace Machine

/-! ### The operation of one cycle -/

/-- A byte is accepted exactly in a cycle that selects `FEED` of it (R81, R85). -/
theorem accepted_eq_some_iff_command {s : State} {b : Byte} : s.accepted = some b ↔ s.command = .feed b := by
  refine ⟨command_of_accepted, fun feeds => ?_⟩
  rw [command_eq] at feeds
  split_ifs at feeds with rst begins pending ready valid
  cases feeds
  exact accepted_eq_some.mpr
    ⟨eq_false_of_ne_true rst, eq_false_of_ne_true begins, eq_false_of_ne_true pending, valid, rfl⟩

/-- No byte is accepted in a cycle that selects another operation (R83, R84, R86, R87). -/
theorem accepted_eq_none_of_command {s : State} {i : Instr} (command : s.command = i) (other : ∀ b, i ≠ .feed b) :
    s.accepted = none :=
  Option.eq_none_iff_forall_ne_some.mpr fun b accepted =>
    other b (command.symm.trans (accepted_eq_some_iff_command.mp accepted))

/-- The step of a cycle whose operation is known, when that answers (R82). -/
theorem step_of_command {s t : State} {i : Instr} (command : s.command = i)
    (run : exec i (s.showRead (s.buffer.load s.pins.rdAddr)) = .next t) : step s = .next t.nextCycle :=
  step_of_exec_command (command ▸ run)

theorem command_of_rst {s : State} (rst : s.pins.rst = true) : s.command = .reset := by
  simp [command_eq, rst]

theorem command_of_begin {s : State} (unreset : s.pins.rst = false) (begins : s.pins.beginI = true) :
    s.command = .beginStream := by
  simp [command_eq, unreset, begins]

theorem command_of_pending {s : State} (unreset : s.pins.rst = false) (unbegun : s.pins.beginI = false)
    (pending : s.evtPending = true) : s.command = if s.pins.evtReady then .evtAck else .evtHold := by
  simp [command_eq, unreset, unbegun, pending]

theorem command_of_idle {s : State} (unreset : s.pins.rst = false) (unbegun : s.pins.beginI = false)
    (quiet : s.evtPending = false) (unoffered : s.pins.inValid = false) : s.command = .idle := by
  simp [command_eq, unreset, unbegun, quiet, unoffered]

/-- Settles O6: `FEED` of the byte accepted is the byte token that its key decodes to, whatever `rd_data` shows. -/
theorem stepRunsDecodedInstruction : Obligations.StepRunsDecodedInstruction := by
  refine fun s t => ⟨step_of_exec_command, fun b accepted run => ?_⟩
  exact step_of_command (command_of_accepted accepted) ((feedByte_eq_exec b _).trans run)

/-- Settles O7: the priority of the port key, the step of the operation selected, and what is accepted. -/
theorem oneOperationPerCycle : Obligations.OneOperationPerCycle :=
  fun s => ⟨command_eq s, fun _ => step_of_exec_command, fun _ => accepted_eq_some_iff_command⟩

/-- Settles O10: `rst` is before everything else in the priority of the port key (R82). -/
theorem resetOperation : Obligations.ResetOperation := by
  refine fun s => ⟨rfl, fun rst => ?_⟩
  have command := command_of_rst rst
  exact ⟨accepted_eq_none_of_command command fun _ => Instr.noConfusion, step_of_command command rfl⟩

/-- Settles O11: `begin_i` is before the event port and the input port in the priority of the port key (R82). -/
theorem beginOperation : Obligations.BeginOperation := by
  refine fun s => ⟨rfl, fun unreset begins => ?_⟩
  have command := command_of_begin unreset begins
  exact ⟨accepted_eq_none_of_command command fun _ => Instr.noConfusion, step_of_command command rfl⟩

/-- Settles O12: with an event pending `evt_ready` selects between `EVT_ACK` and `EVT_HOLD`. -/
theorem eventPortOperations : Obligations.EventPortOperations := by
  refine fun s => ⟨rfl, rfl, fun unreset unbegun pending => ?_⟩
  have command := command_of_pending unreset unbegun pending
  refine ⟨accepted_eq_none_of_command command fun b => by split <;> exact Instr.noConfusion,
    step_of_command command ?_⟩
  cases s.pins.evtReady with
  | true => rfl
  | false => exact congrArg Host.Outcome.next (by simp [State.showRead, pending])

/-- Settles O13: with every request at 0 the port key selects `IDLE`. -/
theorem idleOperation : Obligations.IdleOperation :=
  fun _ => ⟨rfl, fun unreset unbegun quiet unoffered =>
    step_of_command (command_of_idle unreset unbegun quiet unoffered) rfl⟩

/-- Settles O14: whatever an edge does, the read shown is the one of the buffer before it. -/
theorem bufferReadOperation : Obligations.BufferReadOperation := by
  refine ⟨fun s a => rfl, fun s t run => ?_⟩
  obtain ⟨u, -, rfl⟩ := step_edge run
  exact ⟨rfl, rfl⟩

/-- Settles O15: `FEED` is `FEED_BYTE`, which runs the byte token of its key and always answers. -/
theorem feedRunsSelectedToken : Obligations.FeedRunsSelectedToken :=
  fun s b => ⟨feedByte_eq_exec b s, exec_answers (.feed b) s, fun accepted =>
    ⟨not_pending_of_accepted accepted, command_of_accepted accepted⟩⟩

end Machine

/-! ### The decoder by phase and byte -/

/-- A key decodes to the instruction of the row that takes it, when that instruction is well-formed (R61). -/
theorem decodeToken_of_takes {p : PhaseCode} {b c : Byte} {r : TokenRow} (taken : r.takes p b c)
    (wf : (r.instr p b).wellFormed = true) : decodeToken (tokenKey p b) c = r.instr p b := by
  rw [decodeToken_tokenKey, selectRow_eq_of_wellFormed taken wf]

/-- Settles O4: each case names the row that takes its phase and byte, and the tests before it make the byte an operand
that the row admits. -/
theorem tokenDecodeFollowsPhases : Obligations.TokenDecodeFollowsPhases := by
  intro p b c
  split_ifs with seek sync confirm sync esc lenHi lenLo name1 name2 data trailer ended cksum right sync
  · exact decodeToken_of_takes (r := .seekSync) ⟨seek, sync⟩ rfl
  · exact decodeToken_of_takes (r := .seekNoise) seek (bne_iff_ne.mpr sync)
  · exact decodeToken_of_takes (r := .syncMore) ⟨confirm, sync⟩ rfl
  · exact decodeToken_of_takes (r := .syncEsc) ⟨confirm, esc⟩ rfl
  · exact decodeToken_of_takes (r := .syncDesync) confirm
      (Bool.and_eq_true_iff.mpr ⟨bne_iff_ne.mpr sync, bne_iff_ne.mpr esc⟩)
  · exact decodeToken_of_takes (r := .lenHiLoad) lenHi rfl
  · exact decodeToken_of_takes (r := .lenLoLoad) lenLo rfl
  · exact decodeToken_of_takes (r := .name1Load) name1 rfl
  · exact decodeToken_of_takes (r := .name2Load) name2 rfl
  · exact decodeToken_of_takes (r := .dataAppend) data rfl
  · exact decodeToken_of_takes (r := .trailerOk) ⟨trailer, ended⟩ rfl
  · exact decodeToken_of_takes (r := .trailerErr) trailer (bne_iff_ne.mpr ended)
  · exact decodeToken_of_takes (r := .cksumOk) ⟨cksum, right⟩ rfl
  · exact decodeToken_of_takes (r := .cksumErr) ⟨cksum, right⟩ rfl
  all_goals
    have reserved : Phase.firstReserved.ule p = true := by
      by_contra unreserved
      obtain h | h | h | h | h | h | h | h | h | h := phase_cases p <;> contradiction
  · exact decodeToken_of_takes (r := .rsvdAsSeekSync) ⟨reserved, sync⟩ reserved
  · exact decodeToken_of_takes (r := .rsvdAsSeekNoise) reserved
      (Bool.and_eq_true_iff.mpr ⟨reserved, bne_iff_ne.mpr sync⟩)

namespace Machine

/-! ### The byte-level meaning of one cycle -/

theorem streamOp_of_restart {s : State} (asked : s.pins.rst = true ∨ s.pins.beginI = true) :
    s.streamOp = some .restart :=
  if_pos (Bool.or_eq_true_iff.mpr asked)

theorem streamOp_of_unasked {s : State} (unreset : s.pins.rst = false) (unbegun : s.pins.beginI = false) :
    s.streamOp = s.accepted.map .byte := by
  simp [State.streamOp, unreset, unbegun]

theorem streamOp_of_accepted {s : State} {b : Byte} (accepted : s.accepted = some b) :
    s.streamOp = some (.byte b) := by
  obtain ⟨unreset, unbegun, -⟩ := accepted_eq_some.mp accepted
  rw [streamOp_of_unasked unreset unbegun, accepted, Option.map_some]

theorem pendingEvent_of_quiet {s : State} (quiet : s.evtPending = false) : s.pendingEvent = none := by
  simp [State.pendingEvent, quiet]

theorem emittedTo_of_quiet {s : State} (quiet : s.evtPending = false) (t : State) :
    s.emittedTo t = t.pendingEvent := by
  simp [State.emittedTo, quiet]

/-- An edge that moves the model's own fields alone emits nothing (R18). -/
theorem emittedTo_shown (s : State) (v : BufByte) : s.emittedTo (s.showRead v).nextCycle = none :=
  (emittedTo_eq_none_iff s _).mpr (Bool.eq_false_or_eq_true s.evtPending)

/-- `emit(e)` makes the block in the Decoder State the pending event (R130). -/
theorem emit_pendingEvent (s : State) (e : ErrClass) : (s.emit e).pendingEvent = some (s.decoder.report e) := by
  simp [State.pendingEvent, Decoder.report, packName]

/-- A row does to the Decoder State within the block what it does at the byte level (R92). -/
theorem afterRow_decoder (s : State) (b : Byte) (r : TokenRow) :
    (s.afterRow b r).decoder = (s.decoder.feedRow b r).1 := by
  cases r <;> rfl

/-- With no event pending, a row leaves on the event port the event it gives at the byte level (R92). -/
theorem afterRow_pendingEvent {s : State} (quiet : s.evtPending = false) (b : Byte) (r : TokenRow) :
    (s.afterRow b r).pendingEvent = (s.decoder.feedRow b r).2 := by
  cases r
  case trailerErr | cksumOk | cksumErr => exact emit_pendingEvent s _
  all_goals exact pendingEvent_of_quiet quiet

/-- The step of a cycle that accepts a byte: the row that its key selects (R85, R90). -/
theorem step_of_accepted {s : State} {b : Byte} (accepted : s.accepted = some b) :
    step s =
      .next
        ((s.afterRow b (selectRow (tokenKey s.phase b) s.checksum)).showRead
          (s.buffer.load s.pins.rdAddr)).nextCycle := by
  refine step_of_command (command_of_accepted accepted) ?_
  rw [← afterRow_showRead]
  exact feedByte_eq b _

/-- One clock edge is one cycle of the byte-level machine: it reaches the same Decoder State and gives the event that
the edge emits (R92). -/
theorem step_refines_cycle {s t : State} (run : step s = .next t) :
    s.decoder.cycle s.streamOp = (t.decoder, s.emittedTo t) := by
  cases taken : s.accepted with
  | some b =>
    rw [step_of_accepted taken] at run
    cases run
    have quiet := not_pending_of_accepted taken
    rw [streamOp_of_accepted taken, emittedTo_of_quiet quiet]
    calc s.decoder.feed b
        = s.decoder.feedRow b (selectRow (tokenKey s.phase b) s.checksum) := Decoder.feed_eq _ b
      _ = (_, _) := Prod.ext (afterRow_decoder s b _).symm (afterRow_pendingEvent quiet b _).symm
  | none =>
    obtain ⟨u, edge, rfl⟩ := step_edge run
    cases edge with
    | reset rst =>
      rw [streamOp_of_restart (.inl rst), (emittedTo_eq_none_iff s _).mpr (.inr rfl)]
      rfl
    | restart _ begins =>
      rw [streamOp_of_restart (.inr begins), (emittedTo_eq_none_iff s _).mpr (.inr rfl)]
      rfl
    | ack unreset unbegun pending _ =>
      rw [streamOp_of_unasked unreset unbegun, taken, (emittedTo_eq_none_iff s _).mpr (.inl pending)]
      rfl
    | keep unreset unbegun _ =>
      rw [streamOp_of_unasked unreset unbegun, taken, emittedTo_shown]
      rfl
    | accept b r accepted _ => simp [taken] at accepted

/-! ### Runs of cycles -/

/-- A run is its first cycle and the run from the state after it (R94). -/
theorem runCycles_succ {n : Nat} {s t u : State} {ops : List (Option StreamOp)} {events : List (Option Event)}
    (first : step s = .next t) (rest : runCycles n t = some (u, ops, events)) :
    runCycles (n + 1) s = some (u, s.streamOp :: ops, s.emittedTo t :: events) := by
  simp only [runCycles, first, rest]

/-- Settles O43, by induction on the number of cycles: each is one cycle of the byte-level machine. -/
theorem cyclesRefineByteLevel : Obligations.CyclesRefineByteLevel := by
  intro n
  induction n with
  | zero => exact fun s => ⟨s, [], [], rfl, rfl⟩
  | succ n ih =>
    intro s
    obtain ⟨-, -, runs⟩ := noInstructionStops
    obtain ⟨t, first⟩ := runs s
    obtain ⟨u, ops, events, rest, refines⟩ := ih t
    refine ⟨u, _, _, runCycles_succ first rest, ?_⟩
    simp only [Decoder.cycles, step_refines_cycle first, refines]

/-! ### A block that is asked for nothing -/

/-- Ports that ask nothing of a block, which has an event pending or not: no reset, no begin, no acknowledge of a
pending event, no byte when none is pending (R86, R89). -/
def Pins.AsksNothing (pending : Bool) (p : Pins) : Prop :=
  p.rst = false ∧ p.beginI = false ∧ (if pending then p.evtReady = false else p.inValid = false)

theorem Pins.quiet_asksNothing (pending : Bool) : Pins.quiet.AsksNothing pending :=
  ⟨rfl, rfl, by cases pending <;> rfl⟩

/-- Asked for nothing, the block holds a pending event, and otherwise idles (R82). -/
theorem command_of_asksNothing {s : State} (unasked : s.pins.AsksNothing s.evtPending) :
    s.command = if s.evtPending then .evtHold else .idle := by
  obtain ⟨unreset, unbegun, rest⟩ := unasked
  cases pending : s.evtPending with
  | true =>
    have unready : s.pins.evtReady = false := by simpa [pending] using rest
    simp [command_of_pending unreset unbegun pending, unready]
  | false => exact command_of_idle unreset unbegun pending (by simpa [pending] using rest)

theorem step_of_asksNothing {s : State} (unasked : s.pins.AsksNothing s.evtPending) :
    step s = .next (s.showRead (s.buffer.load s.pins.rdAddr)).nextCycle := by
  refine step_of_command (command_of_asksNothing unasked) ?_
  split <;> rfl

theorem streamOp_of_asksNothing {s : State} (unasked : s.pins.AsksNothing s.evtPending) : s.streamOp = none := by
  have none_accepted : s.accepted = none :=
    accepted_eq_none_of_command (command_of_asksNothing unasked) fun b => by split <;> exact Instr.noConfusion
  obtain ⟨unreset, unbegun, -⟩ := unasked
  rw [streamOp_of_unasked unreset unbegun, none_accepted, Option.map_none]

/-- The ports of the next cycles are those that were to come, or the quiet host's past the end of the list (entry 3). -/
theorem asksNothing_nextCycle {s : State} (unasked : ∀ p ∈ s.pins :: s.coming, p.AsksNothing s.evtPending) :
    ∀ p ∈ s.nextCycle.pins :: s.nextCycle.coming, p.AsksNothing s.evtPending := by
  rw [State.nextCycle_pins, State.nextCycle_coming]
  obtain ⟨-, later⟩ := List.forall_mem_cons.mp unasked
  cases coming : s.coming with
  | nil => simpa using Pins.quiet_asksNothing s.evtPending
  | cons p ps => exact coming ▸ later

/-- A run of a block that is asked for nothing accepts nothing, emits nothing and moves the model's own fields alone. -/
theorem runCycles_of_asksNothing (n : Nat) (s : State)
    (unasked : ∀ p ∈ s.pins :: s.coming, p.AsksNothing s.evtPending) :
    ∃ u, runCycles n s = some (u, List.replicate n none, List.replicate n none) ∧
      u = { s with pins := u.pins, coming := u.coming, rdData := u.rdData } := by
  induction n generalizing s with
  | zero => exact ⟨s, rfl, rfl⟩
  | succ n ih =>
    have now : s.pins.AsksNothing s.evtPending := unasked _ List.mem_cons_self
    obtain ⟨u, rest, kept⟩ :=
      ih (s.showRead (s.buffer.load s.pins.rdAddr)).nextCycle (asksNothing_nextCycle unasked)
    refine ⟨u, ?_, kept⟩
    rw [runCycles_succ (step_of_asksNothing now) rest, streamOp_of_asksNothing now, emittedTo_shown]
    rfl

/-- Settles O28: every cycle of such a run selects `EVT_HOLD` or `IDLE`. -/
theorem unaskedBlockKeepsItsState : Obligations.UnaskedBlockKeepsItsState :=
  runCycles_of_asksNothing

end Machine
end Sys2Proof
end

section
/-! The proofs of O40, O16, O17, O32 and O33. First the rows of `SEEK` and `SYNC`, from which the byte tokens of
synchronisation follow; then `feed_all` over a list cut in two, and over bytes that change nothing (R101, R102). Last a
frame part by part: what the Decoder State holds of a block after each of its bytes, and the event that its last byte
gives. -/

namespace Sys2Proof

theorem selectRow_sync (b c : Byte) :
    selectRow (tokenKey Phase.sync b) c =
      if b = Config.sync then .syncMore else if b = Config.esc then .syncEsc else .syncDesync := by
  split_ifs with sync esc
  · exact selectRow_eq_of_wellFormed ⟨rfl, sync⟩ rfl
  · exact selectRow_eq_of_wellFormed ⟨rfl, esc⟩ rfl
  · exact selectRow_eq_of_wellFormed rfl (Bool.and_eq_true_iff.mpr ⟨bne_iff_ne.mpr sync, bne_iff_ne.mpr esc⟩)

namespace Machine

/-! ### The byte tokens of synchronisation -/

/-- What a byte does in `SEEK` and in a reserved phase (R11, R100, R101). -/
theorem afterRow_seek {s : State} (hunts : s.phase = Phase.seek ∨ Phase.firstReserved.ule s.phase = true) (b : Byte) :
    s.afterRow b (selectRow (tokenKey s.phase b) s.checksum) =
      s.setPhase (if b = Config.sync then Phase.sync else Phase.seek) := by
  obtain seek | reserved := hunts
  · rw [seek, selectRow_seek]
    split_ifs <;> rfl
  · rw [selectRow_reserved reserved]
    split_ifs <;> rfl

/-- What a byte does in `SYNC` (R102 to R104). -/
theorem afterRow_sync {s : State} (confirms : s.phase = Phase.sync) (b : Byte) :
    s.afterRow b (selectRow (tokenKey s.phase b) s.checksum) =
      s.setPhase (if b = Config.sync then Phase.sync else if b = Config.esc then Phase.lenHi else Phase.seek) := by
  rw [confirms, selectRow_sync]
  split_ifs <;> rfl

/-- Settles O16: a step that accepts a byte is the row its key selects, and the rows of a reserved phase write what the
rows of `SEEK` write. -/
theorem seekTokens : Obligations.SeekTokens := by
  refine fun s => ⟨rfl, fun _ => rfl, fun _ => rfl, fun _ _ => rfl, fun b accepted hunts => ?_⟩
  have reserved (high : 9 ≤ s.phase.toNat) : Phase.firstReserved.ule s.phase = true := by
    simpa [BitVec.ule, Phase.firstReserved] using high
  rw [step_of_accepted accepted, afterRow_seek (hunts.imp_right reserved)]
  rfl

/-- Settles O17: a step that accepts a byte is the row its key selects. -/
theorem syncTokens : Obligations.SyncTokens := by
  refine fun s => ⟨rfl, rfl, fun _ => rfl, fun b accepted confirms => ?_⟩
  rw [step_of_accepted accepted, afterRow_sync confirms]
  rfl

namespace Decoder

variable {d e f : Decoder} {b : Byte}

/-! ### `feed_all` -/

/-- A byte is the row that takes it, when that row's instruction admits it as an operand (R61, R90). -/
theorem feed_of_takes {r : TokenRow} (taken : r.takes d.phase b d.checksum)
    (wf : (r.instr d.phase b).wellFormed = true) : d.feed b = d.feedRow b r := by
  rw [feed_eq, selectRow_eq_of_wellFormed taken wf]

/-- `feed_all` over two lists in a row: the second starts where the first ends, and its events follow (R91). -/
theorem feedAll_append {xs ys : List Byte} {evs evs' : List Event} (first : d.feedAll xs = (e, evs))
    (second : e.feedAll ys = (f, evs')) : d.feedAll (xs ++ ys) = (f, evs ++ evs') := by
  induction xs generalizing d evs with
  | nil =>
    cases first
    exact second
  | cons x xs ih =>
    cases first
    simp only [List.cons_append, feedAll, ih rfl, List.append_assoc]

/-- After bytes that give no event, only the Decoder State they lead to matters. -/
theorem feedAll_append_of_silent {xs : List Byte} (silent : d.feedAll xs = (e, [])) (ys : List Byte) :
    d.feedAll (xs ++ ys) = e.feedAll ys :=
  feedAll_append silent rfl

theorem feedAll_cons_of_silent (silent : d.feed b = (e, none)) (bs : List Byte) :
    d.feedAll (b :: bs) = e.feedAll bs := by
  simp [feedAll, silent]

theorem feedAll_of_unchanged {xs : List Byte} (unchanged : ∀ b ∈ xs, d.feed b = (d, none)) :
    d.feedAll xs = (d, []) := by
  induction xs with
  | nil => rfl
  | cons b bs ih =>
    obtain ⟨first, rest⟩ := List.forall_mem_cons.mp unchanged
    rw [feedAll_cons_of_silent first, ih rest]

/-! ### Noise and sync runs -/

theorem feed_of_noise (seek : d.phase = Phase.seek) (noise : b ≠ Config.sync) : d.feed b = (d, none) :=
  calc d.feed b
      = ({ d with phase := Phase.seek }, none) := feed_of_takes (r := .seekNoise) seek (bne_iff_ne.mpr noise)
    _ = (d, none) := by rw [← seek]

/-- Bytes without a sync byte leave a Decoder State in `SEEK` as it is (R101). -/
theorem feedAll_noise (seek : d.phase = Phase.seek) {xs : List Byte} (noise : ∀ b ∈ xs, b ≠ Config.sync) :
    d.feedAll xs = (d, []) :=
  feedAll_of_unchanged fun b mem => feed_of_noise seek (noise b mem)

theorem feed_of_sync_more (confirms : d.phase = Phase.sync) : d.feed Config.sync = (d, none) :=
  calc d.feed Config.sync
      = ({ d with phase := Phase.sync }, none) := feed_of_takes (r := .syncMore) ⟨confirms, rfl⟩ rfl
    _ = (d, none) := by rw [← confirms]

/-- The first byte of a sync run ends the search, and every further one changes nothing (R100, R102). -/
theorem feedAll_syncRun (seek : d.phase = Phase.seek) {n : Nat} (synced : 1 ≤ n) :
    d.feedAll (List.replicate n Config.sync) = ({ d with phase := Phase.sync }, []) := by
  obtain ⟨m, rfl⟩ := Nat.exists_eq_add_of_le' synced
  have first : d.feed Config.sync = ({ d with phase := Phase.sync }, none) :=
    feed_of_takes (r := .seekSync) ⟨seek, rfl⟩ rfl
  rw [List.replicate_succ, feedAll_cons_of_silent first]
  refine feedAll_of_unchanged fun b mem => ?_
  rw [List.eq_of_mem_replicate mem]
  exact feed_of_sync_more rfl

end Decoder

/-- Settles O32: no byte of the list is a sync byte, so each is discarded in `SEEK`. -/
theorem noiseIsSilent : Obligations.NoiseIsSilent :=
  fun _ _ seek noise => Decoder.feedAll_noise seek noise

/-- Settles O33: a run of `n` sync bytes and a run of one lead to the same Decoder State. -/
theorem syncRunLengthIndependence : Obligations.SyncRunLengthIndependence := by
  intro d n xs seek synced
  calc d.feedAll (List.replicate n Config.sync ++ Config.esc :: xs)
      = Decoder.feedAll { d with phase := Phase.sync } (Config.esc :: xs) :=
        Decoder.feedAll_append_of_silent (Decoder.feedAll_syncRun seek synced) _
    _ = d.feedAll (List.replicate 1 Config.sync ++ Config.esc :: xs) :=
        (Decoder.feedAll_append_of_silent (Decoder.feedAll_syncRun seek le_rfl) _).symm

/-! ### A frame, part by part -/

/-- The length bytes of a frame give back its payload's length (R62, R70, R111). -/
theorem payloadLength_declaredFor (p : List Byte) :
    payloadLength (bigEndian (highByte (declaredFor p)) (lowByte (declaredFor p))) = BitVec.ofNat 16 p.length := by
  rw [bigEndian_parts, payloadLength, declaredFor, BitVec.sub_add_cancel]

/-- The Decoder State past the header of a block with the given name and payload length, of whose payload it has read
`q` (R27). -/
structure Decoder.HasRead (d : Decoder) (n0 n1 : Byte) (len : Nat) (q : List Byte) : Prop where
  fits : len ≤ 65535
  phase : d.phase = if d.count = d.expLen then Phase.trailer else Phase.data
  expLen : d.expLen = BitVec.ofNat 16 len
  count : d.count = BitVec.ofNat 16 q.length
  name0 : d.name0 = n0
  name1 : d.name1 = n1
  checksum : d.checksum = byteSum q
  kind : d.kind = contentClass q
  payload : d.buffer.bytes q.length = q

namespace Decoder

variable {d : Decoder} {n0 n1 : Byte}

theorem feed_lenHi (phase : d.phase = Phase.lenHi) (b : Byte) :
    d.feed b = ({ d with expLen := withHighByte d.expLen b, phase := Phase.lenLo }, none) :=
  feed_of_takes (r := .lenHiLoad) phase rfl

theorem feed_lenLo (phase : d.phase = Phase.lenLo) (b : Byte) :
    d.feed b = ({ d with expLen := payloadLength (declaredLength d.expLen b), phase := Phase.name1 }, none) :=
  feed_of_takes (r := .lenLoLoad) phase rfl

theorem feed_name1 (phase : d.phase = Phase.name1) (b : Byte) :
    d.feed b = ({ d with name0 := b, phase := Phase.name2 }, none) :=
  feed_of_takes (r := .name1Load) phase rfl

theorem feed_name2 (phase : d.phase = Phase.name2) (b : Byte) :
    d.feed b = ({ d with name1 := b, phase := phaseAfterName d.expLen }, none) :=
  feed_of_takes (r := .name2Load) phase rfl

/-- The header is four bytes of any value (R110 to R114). -/
theorem feedAll_header (starts : d.phase = Phase.lenHi) (h l n0 n1 : Byte) :
    d.feedAll [h, l, n0, n1] =
      ({ d with
          expLen := payloadLength (bigEndian h l)
          name0 := n0
          name1 := n1
          phase := phaseAfterName (payloadLength (bigEndian h l)) }, []) := by
  simp [Decoder.feedAll, feed_lenHi starts, feed_lenLo, feed_name1, feed_name2]

/-- A sync run, `ESC` and the header, read by a Decoder State that seeks (R62). -/
theorem feedAll_frame_start (seeks : d.seeking) {sync : Nat} (synced : 1 ≤ sync) (n0 n1 : Byte) {p : List Byte}
    (fits : p.length ≤ 65535) :
    ∃ e, d.feedAll (List.replicate sync Config.sync ++
        [Config.esc, highByte (declaredFor p), lowByte (declaredFor p), n0, n1]) = (e, []) ∧
      e.HasRead n0 n1 p.length [] := by
  obtain ⟨seek, -, count, checksum, kind⟩ := seeks
  have escaped : Decoder.feed { d with phase := Phase.sync } Config.esc = ({ d with phase := Phase.lenHi }, none) :=
    feed_of_takes (r := .syncEsc) ⟨rfl, rfl⟩ rfl
  have header := feedAll_header (d := { d with phase := Phase.lenHi }) rfl (highByte (declaredFor p))
    (lowByte (declaredFor p)) n0 n1
  rw [payloadLength_declaredFor] at header
  rw [feedAll_append_of_silent (feedAll_syncRun seek synced), feedAll_cons_of_silent escaped, header]
  exact ⟨_, rfl,
    { fits
      phase := by simp only [phaseAfterName, count, eq_comm]
      expLen := rfl
      count
      name0 := rfl
      name1 := rfl
      checksum
      kind
      payload := rfl }⟩

namespace HasRead

variable {len : Nat} {q p : List Byte}

/-- A payload byte is read, whatever its value, until the payload is complete (R120). -/
theorem feed (h : d.HasRead n0 n1 len q) (more : q.length < len) (b : Byte) :
    ∃ e, d.feed b = (e, none) ∧ e.HasRead n0 n1 len (q ++ [b]) := by
  have fits := h.fits
  have count : d.count.toNat = q.length := by
    rw [h.count, BitVec.toNat_ofNat]
    omega
  have expLen : d.expLen.toNat = len := by
    rw [h.expLen, BitVec.toNat_ofNat]
    omega
  have data : d.phase = Phase.data := by
    rw [h.phase, if_neg fun complete => more.ne (count ▸ expLen ▸ congrArg BitVec.toNat complete)]
  refine ⟨_, feed_of_takes (r := .dataAppend) data rfl, ?_⟩
  exact
    { h with
      phase := rfl
      count := by rw [h.count, List.length_append, List.length_singleton, BitVec.ofNat_add]
      checksum := by rw [h.checksum, byteSum_append_one]
      kind := by rw [h.kind, contentClass_append_one]
      payload := by
        rw [List.length_append, List.length_singleton, ← count, Memory.bytes_store_next, count, h.payload] }

/-- The rest of a payload gives no event (R120). -/
theorem feedAll (h : d.HasRead n0 n1 len q) (room : q.length + p.length ≤ len) :
    ∃ e, d.feedAll p = (e, []) ∧ e.HasRead n0 n1 len (q ++ p) := by
  induction p generalizing d q with
  | nil => exact ⟨d, rfl, by rwa [List.append_nil]⟩
  | cons b bs ih =>
    rw [List.length_cons] at room
    obtain ⟨e, first, one⟩ := h.feed (by omega) b
    obtain ⟨f, rest, all⟩ := ih one (by rw [List.length_append, List.length_singleton]; omega)
    exact ⟨f, by rw [feedAll_cons_of_silent first, rest], by rwa [List.append_cons]⟩

variable (h : d.HasRead n0 n1 p.length p)
include h

theorem phase_of_complete : d.phase = Phase.trailer := by
  rw [h.phase, if_pos (h.count.trans h.expLen.symm)]

/-- A block whose payload is complete is reported with its name, length, payload and class (R130). -/
theorem report_of_complete (c : ErrClass) : d.report c = blockEvent n0 n1 p c := by
  have count : d.count.toNat = p.length := by
    rw [h.count, BitVec.toNat_ofNat]
    exact Nat.mod_eq_of_lt (Nat.lt_succ_of_le h.fits)
  unfold report blockEvent
  rw [count, h.payload, h.name0, h.name1, h.kind, h.count]

/-- A wrong end marker ends the block at once (R132). -/
theorem feed_wrong_end {e : Byte} (wrong : e ≠ Config.endMark) :
    d.feed e = (d.init, some (blockEvent n0 n1 p .trailer)) := by
  rw [feed_of_takes (r := .trailerErr) h.phase_of_complete (bne_iff_ne.mpr wrong), ← h.report_of_complete]
  rfl

/-- After the end marker the checksum byte ends the block (R131, R133, R134). -/
theorem feedAll_right_end (c : Byte) :
    d.feedAll [Config.endMark, c] =
      (d.init, [blockEvent n0 n1 p (if c = byteSum p then .none else .checksum)]) := by
  have marked : d.feed Config.endMark = ({ d with phase := Phase.cksum }, none) :=
    feed_of_takes (r := .trailerOk) ⟨h.phase_of_complete, rfl⟩ rfl
  have ended : Decoder.feed { d with phase := Phase.cksum } c =
      (d.init, some (d.report (if c = byteSum p then .none else .checksum))) := by
    split_ifs with right
    · exact feed_of_takes (r := .cksumOk) ⟨rfl, right.trans h.checksum.symm⟩ rfl
    · exact feed_of_takes (r := .cksumErr) ⟨rfl, fun equal => right (equal.trans h.checksum)⟩ rfl
  rw [feedAll_cons_of_silent marked, ← h.report_of_complete]
  simp [Decoder.feedAll, ended]

end HasRead

theorem init_seeking (d : Decoder) : d.init.seeking := ⟨rfl, rfl, rfl, rfl, rfl⟩

end Decoder

/-! ### Blocks one after another -/

namespace StreamBlock

/-- The bytes of a block in the stream. -/
def bytes (k : StreamBlock) : List Byte :=
  frameWith k.sync k.n0 k.n1 k.payload k.endByte k.cksumByte ++ k.pad

/-- The event a block gives: with the right end marker the checksum byte decides the error class (R134, R154). -/
def event (k : StreamBlock) : Event :=
  blockEvent k.n0 k.n1 k.payload
    (if k.endByte ≠ Config.endMark then .trailer else if k.cksumByte = byteSum k.payload then .none else .checksum)

/-- A block with a sync run and a payload of a length that can be declared, and no sync byte among its bytes that are
read in `SEEK` after its event: the padding, and the checksum byte after a wrong end marker (R106). -/
def Separate (k : StreamBlock) : Prop :=
  1 ≤ k.sync ∧ k.payload.length ≤ 65535 ∧ (k.endByte ≠ Config.endMark → k.cksumByte ≠ Config.sync) ∧
    ∀ b ∈ k.pad, b ≠ Config.sync

/-- The last two bytes of a block and its padding give its event, and the search for a sync run begins again. -/
theorem feedAll_ending {k : StreamBlock} {d : Decoder} (separate : k.Separate)
    (complete : d.HasRead k.n0 k.n1 k.payload.length k.payload) :
    d.feedAll ([k.endByte, k.cksumByte] ++ k.pad) = (d.init, [k.event]) := by
  obtain ⟨-, -, unsynced, padding⟩ := separate
  have seek : d.init.phase = Phase.seek := rfl
  by_cases right : k.endByte = Config.endMark
  · rw [event, if_neg (not_not.mpr right), right]
    exact Decoder.feedAll_append (complete.feedAll_right_end k.cksumByte) (Decoder.feedAll_noise seek padding)
  · have ended : d.feedAll [k.endByte] = (d.init, [blockEvent k.n0 k.n1 k.payload .trailer]) := by
      simp [Decoder.feedAll, complete.feed_wrong_end right]
    rw [event, if_pos right]
    exact Decoder.feedAll_append ended
      (Decoder.feedAll_noise seek (List.forall_mem_cons.mpr ⟨unsynced right, padding⟩))

/-- A block gives its own event and leaves the Decoder State seeking. -/
theorem feedAll_bytes {k : StreamBlock} {d : Decoder} (seeks : d.seeking) (separate : k.Separate) :
    ∃ e, d.feedAll k.bytes = (e, [k.event]) ∧ e.seeking := by
  have ⟨synced, fits, _⟩ := separate
  obtain ⟨e, start, header⟩ := Decoder.feedAll_frame_start seeks synced k.n0 k.n1 fits
  obtain ⟨f, payload, complete⟩ := header.feedAll (p := k.payload) (by simp)
  refine ⟨f.init, ?_, f.init_seeking⟩
  rw [bytes, frameWith, List.append_assoc, List.append_assoc, Decoder.feedAll_append_of_silent start,
    Decoder.feedAll_append_of_silent payload]
  exact feedAll_ending separate complete

theorem feedAll_flatMap_bytes {d : Decoder} (seeks : d.seeking) {blocks : List StreamBlock}
    (separate : ∀ k ∈ blocks, k.Separate) :
    ∃ e, d.feedAll (blocks.flatMap bytes) = (e, blocks.map event) ∧ e.seeking := by
  induction blocks generalizing d with
  | nil => exact ⟨d, rfl, seeks⟩
  | cons k ks ih =>
    obtain ⟨now, later⟩ := List.forall_mem_cons.mp separate
    obtain ⟨e, first, again⟩ := feedAll_bytes seeks now
    obtain ⟨f, rest, still⟩ := ih again later
    exact ⟨f, Decoder.feedAll_append first rest, still⟩

end StreamBlock

/-- Settles O40, by induction on the blocks: each gives its own event and leaves the Decoder State seeking, as the
next one needs it. -/
theorem consecutiveBlocksAreRecovered : Obligations.ConsecutiveBlocksAreRecovered := by
  intro d blocks seeks separate
  obtain ⟨e, fed, -⟩ := StreamBlock.feedAll_flatMap_bytes seeks separate
  exact congrArg Prod.snd fed

end Machine
end Sys2Proof
end

section
/-! The proofs of O18, O19 and O34. First the numbers that big-endian bytes stand for, and the step of a cycle whose
byte a known row takes; from these the four byte tokens of the header follow, and its length as a number. -/

namespace Sys2Proof
namespace Machine

/-! ### The numbers of a length -/

/-- A word is 256 times its first byte plus its second (R45). -/
theorem toNat_bigEndian (hi lo : Byte) : (bigEndian hi lo).toNat = 256 * hi.toNat + lo.toNat := by
  rw [bigEndian, BitVec.toNat_append, ← Nat.shiftLeft_add_eq_or_of_lt lo.isLt, Nat.shiftLeft_eq, Nat.mul_comm]

theorem toNat_lowByte (w : Word) : (lowByte w).toNat = w.toNat % 256 := by
  simp [lowByte]

theorem toNat_highByte (w : Word) : (highByte w).toNat = w.toNat / 256 := by
  have parts := toNat_bigEndian (highByte w) (lowByte w)
  rw [bigEndian_parts] at parts
  omega

/-- One is added to a declared length on 16 bits (R62, R111). -/
theorem toNat_payloadLength (w : Word) : (payloadLength w).toNat = (w.toNat + 1) % 65536 :=
  BitVec.toNat_add w 1#16

/-! ### The byte tokens of the header -/

/-- A step that accepts a byte is the row that takes it, when that row's instruction admits it as an operand (R61,
R82, R90). -/
theorem step_of_takes {s : State} {b : Byte} {r : TokenRow} (accepted : s.accepted = some b)
    (taken : r.takes s.phase b s.checksum) (wf : (r.instr s.phase b).wellFormed = true) :
    step s = .next ((s.afterRow b r).showRead (s.buffer.load s.pins.rdAddr)).nextCycle := by
  rw [step_of_accepted accepted, selectRow_eq_of_wellFormed taken wf]

/-- Settles O18: each length byte is its row of R61, and the word it leaves is a big-endian one with the byte in its
place. -/
theorem lengthTokens : Obligations.LengthTokens := by
  refine fun s => ⟨fun h => ?_, fun l => ?_⟩
  · refine ⟨s.afterRow h .lenHiLoad, rfl, ?_, rfl, fun accepted phase => step_of_takes accepted phase rfl⟩
    calc (withHighByte s.expLen h).toNat
        = 256 * h.toNat + (lowByte s.expLen).toNat := toNat_bigEndian _ _
      _ = 256 * h.toNat + s.expLen.toNat % 256 := by rw [toNat_lowByte]
  · refine ⟨s.afterRow l .lenLoLoad, rfl, ?_, rfl, fun accepted phase => step_of_takes accepted phase rfl⟩
    calc (payloadLength (declaredLength s.expLen l)).toNat
        = ((declaredLength s.expLen l).toNat + 1) % 65536 := toNat_payloadLength _
      _ = (256 * (s.expLen.toNat / 256) + l.toNat + 1) % 65536 := by
        rw [declaredLength, toNat_bigEndian, toNat_highByte]

/-- Settles O19: each name byte is its row of R61, whatever its value. -/
theorem nameTokens : Obligations.NameTokens :=
  fun _ _ => ⟨rfl, rfl, fun accepted phase => step_of_takes (r := .name1Load) accepted phase rfl,
    fun accepted phase => step_of_takes (r := .name2Load) accepted phase rfl⟩

/-- Settles O34: the length that the four bytes leave is the declared one plus one, and its value decides the phase. -/
theorem headerTakesFourBytes : Obligations.HeaderTakesFourBytes := by
  intro d h l n0 n1 starts
  refine ⟨payloadLength (bigEndian h l), ?_, Decoder.feedAll_header starts h l n0 n1⟩
  rw [toNat_payloadLength, toNat_bigEndian]

end Machine
end Sys2Proof
end

section
/-! The proofs of O20, O35 and O36. First the checksum of a payload as a sum of numbers modulo 256, the content class as
a fold over its bytes, and what one payload byte adds to each; then the statements. -/

namespace Sys2Proof
namespace Machine

/-! ### The checksum as a number -/

/-- The checksum is added to modulo 256 (R15, R120). -/
theorem toNat_checksumAfter (c b : Byte) : (checksumAfter c b).toNat = (c.toNat + b.toNat) % 256 :=
  BitVec.toNat_add c b

/-- The checksum of a byte list is the sum of its bytes modulo 256 (R121). -/
theorem toNat_byteSum (bs : List Byte) : (byteSum bs).toNat = (bs.map BitVec.toNat).sum % 256 := by
  induction bs using List.reverseRecOn with
  | nil => rfl
  | append_singleton bs b ih =>
    rw [byteSum_append_one, toNat_checksumAfter, ih, Nat.mod_add_mod, List.map_append, List.sum_append,
      List.map_singleton, List.sum_singleton]

/-- The checksum does not see the order of the bytes (R121). -/
theorem byteSum_eq_of_perm {xs ys : List Byte} (perm : xs.Perm ys) : byteSum xs = byteSum ys := by
  apply BitVec.eq_of_toNat_eq
  rw [toNat_byteSum, toNat_byteSum, (perm.map BitVec.toNat).sum_eq]

/-- A byte can be read off the checksum when all the others are known: it is below the modulus (R121). -/
theorem eq_of_byteSum_eq {xs ys : List Byte} {a b : Byte} (same : byteSum (xs ++ a :: ys) = byteSum (xs ++ b :: ys)) :
    a = b := by
  have sums := congrArg BitVec.toNat same
  simp only [toNat_byteSum, List.map_append, List.map_cons, List.sum_append, List.sum_cons] at sums
  bv_omega

/-- Settles O35: the checksum is a sum of numbers modulo 256, each of them below 256. -/
theorem checksumDetectsOneByte : Obligations.ChecksumDetectsOneByte :=
  ⟨fun xs _ => ⟨toNat_byteSum xs, byteSum_eq_of_perm⟩, fun _ _ _ _ changed same => changed (eq_of_byteSum_eq same)⟩

/-! ### The content class of a payload -/

/-- A byte of at least 0x80 makes the class `OBJECT`, and any other keeps it (R17, R120). -/
theorem kindAfter_eq (k : BitVec 1) (b : Byte) : kindAfter k b = if 128 ≤ b.toNat then Kind.object else k := by
  rw [kindAfter, highBit_eq]
  split_ifs with high
  · exact BitVec.or_allOnes
  · exact BitVec.or_zero

/-- The sticky class of a run of payload bytes is the class of the payload they make (R27, R122). -/
theorem foldl_kindAfter_text (bs : List Byte) : bs.foldl kindAfter Kind.text = contentClass bs := by
  induction bs using List.reverseRecOn with
  | nil => rfl
  | append_singleton bs b ih => rw [List.foldl_concat, ih, contentClass_append_one]

/-- A payload is `OBJECT` when one of its bytes is at least 0x80 (R122). -/
theorem contentClass_eq_object_iff (bs : List Byte) : contentClass bs = Kind.object ↔ ∃ b ∈ bs, 128 ≤ b.toNat := by
  have differ : Kind.text ≠ Kind.object := by decide
  simp [contentClass, differ]

/-- Settles O36: the fold gives the class of the payload, whose meaning is an existence. -/
theorem contentClassIsAnyHighByte : Obligations.ContentClassIsAnyHighByte := by
  intro xs
  have fold : xs.foldl kindAfter 0#1 = contentClass xs := foldl_kindAfter_text xs
  exact ⟨fold ▸ contentClass_eq_object_iff xs, fold⟩

/-! ### The byte token of the payload -/

/-- Settles O20: the row writes the buffer at `count`, the three running registers and `phase`; a step that accepts a
byte in `DATA` is this row. -/
theorem dataAppendToken : Obligations.DataAppendToken := by
  intro s d
  refine ⟨s.afterRow d .dataAppend, rfl, ?stored, ?kept, rfl, toNat_checksumAfter _ _, kindAfter_eq _ _, rfl, rfl,
    fun accepted phase => step_of_takes accepted phase rfl⟩
  case stored => exact Memory.load_store_same _ _ _
  case kept => exact fun a other => Memory.load_store_other _ _ other

end Machine
end Sys2Proof
end

section
/-! The proofs of O37, O38, O39, O27, O22 and O21. First a frame cut before its end marker, which is silent, and what
the two bytes after the cut give; the statements about frames are read off these. Then the bytes that end a block, and
the event an edge emits as the one that `feed` gives for the byte it accepts. -/

namespace Sys2Proof
namespace Machine

/-! ### Frames -/

/-- A frame without its last two bytes, the end marker and the checksum (R62). -/
def frameBody (sync : Nat) (n0 n1 : Byte) (payload : List Byte) : List Byte :=
  List.replicate sync Config.sync ++
    [Config.esc, highByte (declaredFor payload), lowByte (declaredFor payload), n0, n1] ++ payload

theorem frameWith_eq (sync : Nat) (n0 n1 : Byte) (payload : List Byte) (e c : Byte) :
    frameWith sync n0 n1 payload e c = frameBody sync n0 n1 payload ++ [e, c] := rfl

namespace Decoder

variable {d : Decoder} {n0 n1 : Byte} {p : List Byte}

/-- What a byte does in `SEEK` (R100, R101). -/
theorem feed_seek (seek : d.phase = Phase.seek) (b : Byte) :
    d.feed b = ({ d with phase := if b = Config.sync then Phase.sync else Phase.seek }, none) := by
  rw [feed_eq, seek, selectRow_seek]
  split_ifs <;> rfl

/-- The end marker of a complete payload gives no event yet (R131). -/
theorem HasRead.feed_endMark (h : d.HasRead n0 n1 p.length p) :
    d.feed Config.endMark = ({ d with phase := Phase.cksum }, none) :=
  feed_of_takes (r := .trailerOk) ⟨h.phase_of_complete, rfl⟩ rfl

/-- A wrong end marker ends the block, and the byte after it is read in `SEEK` (R132, R177). -/
theorem HasRead.feedAll_wrong_end (h : d.HasRead n0 n1 p.length p) {e : Byte} (wrong : e ≠ Config.endMark)
    (c : Byte) :
    d.feedAll [e, c] =
      ({ d.init with phase := if c = Config.sync then Phase.sync else Phase.seek },
        [blockEvent n0 n1 p .trailer]) := by
  have next := feed_seek (d := d.init) rfl c
  simp [Decoder.feedAll, h.feed_wrong_end wrong, next]

variable {sync : Nat} (seeks : d.seeking) (synced : 1 ≤ sync) (fits : p.length ≤ 65535)
include seeks synced fits

/-- A frame gives no event before its end marker, whatever its name and payload. -/
theorem feedAll_frameBody (n0 n1 : Byte) :
    ∃ f, d.feedAll (frameBody sync n0 n1 p) = (f, []) ∧ f.HasRead n0 n1 p.length p := by
  obtain ⟨e, start, header⟩ := feedAll_frame_start seeks synced n0 n1 fits
  obtain ⟨f, payload, complete⟩ := header.feedAll (p := p) (by simp)
  exact ⟨f, feedAll_append start payload, complete⟩

/-- With the right end marker the checksum byte decides the error class, and the payload is in the buffer (R133, R134,
R136). -/
theorem feedAll_frame_right_end (n0 n1 c : Byte) :
    ∃ f, d.feedAll (frameWith sync n0 n1 p Config.endMark c) =
        (f, [blockEvent n0 n1 p (if c = byteSum p then .none else .checksum)]) ∧
      f.seeking ∧ f.buffer.bytes p.length = p := by
  obtain ⟨f, body, complete⟩ := feedAll_frameBody seeks synced fits n0 n1
  exact ⟨f.init, feedAll_append body (complete.feedAll_right_end c), f.init_seeking, complete.payload⟩

/-- With a wrong end marker the checksum byte is the next byte of the search (R132, R136). -/
theorem feedAll_frame_wrong_end (n0 n1 : Byte) {e : Byte} (wrong : e ≠ Config.endMark) (c : Byte) :
    ∃ f, d.feedAll (frameWith sync n0 n1 p e c) = (f, [blockEvent n0 n1 p .trailer]) ∧
      f.phase = if c = Config.sync then Phase.sync else Phase.seek := by
  obtain ⟨f, body, complete⟩ := feedAll_frameBody seeks synced fits n0 n1
  exact ⟨_, feedAll_append body (complete.feedAll_wrong_end wrong c), rfl⟩

end Decoder

/-- Settles O37: a frame is silent up to its end marker, and its last two bytes give its event. A changed payload byte
changes the checksum, so the frame's checksum byte is a wrong one. -/
theorem frameGivesItsEvent : Obligations.FrameGivesItsEvent := by
  intro d sync n0 n1 p seeks synced fits
  refine ⟨?formed, ?changed, ?marker⟩
  case formed =>
    have formed := Decoder.feedAll_frame_right_end seeks synced fits n0 n1 (byteSum p)
    rwa [if_pos rfl] at formed
  case changed =>
    rintro xs ys a b rfl differ
    have fits' : (xs ++ b :: ys).length ≤ 65535 := by simpa using fits
    obtain ⟨f, fed, -⟩ := Decoder.feedAll_frame_right_end seeks synced fits' n0 n1 (byteSum (xs ++ a :: ys))
    rw [if_neg fun same => differ (eq_of_byteSum_eq same)] at fed
    exact congrArg Prod.snd fed
  case marker => exact fun e c wrong => Decoder.feedAll_frame_wrong_end seeks synced fits n0 n1 wrong c

/-- Settles O38: the checksum byte is read as one only after the right end marker. -/
theorem errorClassOfAFrame : Obligations.ErrorClassOfAFrame := by
  intro d sync n0 n1 p e c seeks synced fits
  by_cases right : e = 0x17#8
  · rw [if_neg (not_not.mpr right), right]
    obtain ⟨f, fed, -⟩ := Decoder.feedAll_frame_right_end seeks synced fits n0 n1 c
    exact congrArg Prod.snd fed
  · rw [if_pos right]
    obtain ⟨f, fed, -⟩ := Decoder.feedAll_frame_wrong_end seeks synced fits n0 n1 right c
    exact congrArg Prod.snd fed

/-- The beginning of a silent stream is silent (R91). -/
theorem Decoder.feedAll_take_silent {d : Decoder} {xs : List Byte} (silent : (d.feedAll xs).2 = []) (k : Nat) :
    (d.feedAll (xs.take k)).2 = [] := by
  have cut := Decoder.feedAll_append (d := d) (xs := xs.take k) (ys := xs.drop k) rfl rfl
  rw [List.take_append_drop] at cut
  rw [cut] at silent
  exact (List.append_eq_nil_iff.mp silent).1

/-- Settles O39: every byte of a frame but the last is silent, and a cut leaves some of these. -/
theorem truncatedFrameGivesNoEvent : Obligations.TruncatedFrameGivesNoEvent := by
  intro d sync n0 n1 p c k seeks synced fits short
  have split : frameWith sync n0 n1 p Config.endMark c = (frameBody sync n0 n1 p ++ [Config.endMark]) ++ [c] := by
    simp [frameWith_eq]
  have kept : k ≤ (frameBody sync n0 n1 p ++ [Config.endMark]).length := by
    simpa [frameWith_eq, Nat.lt_succ_iff] using short
  have cut : (frameWith sync n0 n1 p Config.endMark c).take k =
      (frameBody sync n0 n1 p ++ [Config.endMark]).take k := by
    rw [split, List.take_append_of_le_length kept]
  obtain ⟨f, body, complete⟩ := Decoder.feedAll_frameBody seeks synced fits n0 n1
  have marked : f.feedAll [Config.endMark] = ({ f with phase := Phase.cksum }, []) :=
    Decoder.feedAll_cons_of_silent complete.feed_endMark []
  have silent := congrArg Prod.snd (Decoder.feedAll_append body marked)
  calc (d.feedAll ((frameWith sync n0 n1 p Config.endMark c).take k)).2
      = (d.feedAll ((frameBody sync n0 n1 p ++ [Config.endMark]).take k)).2 := by rw [cut]
    _ = [] := Decoder.feedAll_take_silent silent k

/-! ### The byte that ends a block -/

namespace Decoder

variable {d : Decoder} {b : Byte}

/-- The bytes that end a block: a wrong end marker, and any checksum byte (R132 to R135). -/
def Ends (d : Decoder) (b : Byte) : Prop :=
  d.phase = Phase.trailer ∧ b ≠ Config.endMark ∨ d.phase = Phase.cksum

/-- The error class that an ending byte decides (R154). -/
def endClass (d : Decoder) (b : Byte) : ErrClass :=
  if d.phase = Phase.trailer then .trailer else if b = d.checksum then .none else .checksum

theorem code_endClass (d : Decoder) (b : Byte) :
    (d.endClass b).code = if d.phase = Phase.trailer then 1#2 else if b = d.checksum then 0#2 else 2#2 := by
  unfold endClass
  split_ifs <;> rfl

theorem feed_of_ends (ends : d.Ends b) : d.feed b = (d.init, some (d.report (d.endClass b))) := by
  obtain ⟨trailer, wrong⟩ | cksum := ends
  · rw [feed_of_takes (r := .trailerErr) trailer (bne_iff_ne.mpr wrong), endClass, if_pos trailer]
    rfl
  · have other : d.phase ≠ Phase.trailer := by
      rw [cksum]
      decide
    rw [endClass, if_neg other]
    split_ifs with right
    · exact feed_of_takes (r := .cksumOk) ⟨cksum, right⟩ rfl
    · exact feed_of_takes (r := .cksumErr) ⟨cksum, right⟩ rfl

/-- The rows that report a block take ending bytes alone (R61, R135). -/
theorem feed_event_of_not_ends (goesOn : ¬d.Ends b) : (d.feed b).2 = none := by
  have taken := takes_selectRow d.phase b d.checksum
  have wf := wellFormed_selectRow d.phase b d.checksum
  rw [feed_eq]
  cases row : selectRow (tokenKey d.phase b) d.checksum <;> rw [row] at taken wf
  case trailerErr => exact absurd (.inl ⟨taken, bne_iff_ne.mp wf⟩) goesOn
  case cksumOk | cksumErr => exact absurd (.inr taken.1) goesOn
  all_goals rfl

theorem feed_event_eq_some_iff {event : Event} :
    (d.feed b).2 = some event ↔ d.Ends b ∧ event = d.report (d.endClass b) := by
  by_cases ends : d.Ends b
  · simp [feed_of_ends ends, ends, eq_comm]
  · simp [feed_event_of_not_ends ends, ends]

end Decoder

/-! ### What an edge emits -/

/-- A cycle that accepts no byte emits nothing; one that does emits what `feed` gives for it (R92). -/
theorem emittedTo_eq {s t : State} (run : step s = .next t) :
    s.emittedTo t = s.accepted.bind fun b => (s.decoder.feed b).2 := by
  have cycle := congrArg Prod.snd (step_refines_cycle run)
  cases accepted : s.accepted with
  | some b =>
    rw [streamOp_of_accepted accepted] at cycle
    exact cycle.symm
  | none =>
    unfold State.streamOp at cycle
    split_ifs at cycle
    · exact cycle.symm
    · rw [accepted] at cycle
      exact cycle.symm

theorem emittedTo_eq_some_iff {s t : State} (run : step s = .next t) {event : Event} :
    s.emittedTo t = some event ↔
      ∃ b, s.accepted = some b ∧ s.decoder.Ends b ∧ event = s.decoder.report (s.decoder.endClass b) := by
  simp only [emittedTo_eq run, Option.bind_eq_some_iff, Decoder.feed_event_eq_some_iff]

/-- Settles O27: the event emitted is the report of the block that the accepted byte ends. -/
theorem eventsComeFromEndingBytes : Obligations.EventsComeFromEndingBytes := by
  intro s t run
  refine ⟨?_, fun event emitted => ?_⟩
  · rw [Option.ne_none_iff_exists']
    simp only [emittedTo_eq_some_iff run]
    exact ⟨fun ⟨_, b, accepted, ends, _⟩ => ⟨b, accepted, ends⟩,
      fun ⟨b, accepted, ends⟩ => ⟨_, b, accepted, ends, rfl⟩⟩
  · obtain ⟨b, accepted, -, rfl⟩ := (emittedTo_eq_some_iff run).mp emitted
    simp only [Decoder.report, Decoder.code_endClass, accepted, Option.some.injEq]
    rfl

/-! ### The byte tokens of the trailer -/

/-- Settles O22: a wrong end marker, a right checksum byte and a wrong one each have their row of R61, and each row
reports the block. -/
theorem endingTokens : Obligations.EndingTokens := by
  refine fun s b => ⟨rfl, rfl, rfl, fun accepted trailer wrong => ?_, fun accepted cksum => ?_⟩
  · exact step_of_takes (r := .trailerErr) accepted trailer (bne_iff_ne.mpr wrong)
  · split_ifs with right
    · exact step_of_takes (r := .cksumOk) accepted ⟨cksum, right⟩ rfl
    · exact step_of_takes (r := .cksumErr) accepted ⟨cksum, right⟩ rfl

/-- Settles O21: the end marker in `TRAILER` is its own row of R61, which writes `phase` alone. -/
theorem trailerOkToken : Obligations.TrailerOkToken :=
  fun _ => ⟨rfl, fun accepted trailer => step_of_takes (r := .trailerOk) accepted ⟨trailer, rfl⟩ rfl⟩

end Machine
end Sys2Proof
end

section
/-! The proof of O41. First how far a phase is from `DATA`, which a byte shortens by at most one, so that from `SEEK` six
bytes store nothing; then the seven bytes that store one, as the start of a frame with one payload byte. -/

namespace Sys2Proof
namespace Machine

/-- The fewest bytes that a Decoder State in phase `p` takes before one that it stores: the codes up to `DATA` stand
in the order of a block (R10). From `DATA` on it promises nothing. -/
def bytesBeforeData (p : PhaseCode) : Nat := Phase.data.toNat - p.toNat

/-- The reserved codes stand above `DATA`, as the first of them does. -/
theorem bytesBeforeData_of_takes {p : PhaseCode} {b c : Byte} {r : TokenRow} (taken : r.takes p b c) :
    bytesBeforeData p = bytesBeforeData r.phase := by
  rw [TokenRow.phase_of_takes taken]
  split_ifs with reserved
  · have above : Phase.data.toNat ≤ p.toNat := le_trans (by decide) (BitVec.le_def.mp (BitVec.ule_iff_le.mp reserved))
    exact Nat.sub_eq_zero_of_le above
  · rfl

namespace Decoder

variable {d : Decoder}

/-- The buffer is written by `DATA_APPEND` alone, at `count` (R41, R48). -/
theorem feedRow_buffer (d : Decoder) (b : Byte) (r : TokenRow) :
    (d.feedRow b r).1.buffer = if r = .dataAppend then d.buffer.store d.count b else d.buffer := by
  cases r <;> rfl

/-- Only a byte in `DATA` is stored (R120). -/
theorem feed_buffer_of_ne_data (outside : d.phase ≠ Phase.data) (b : Byte) : (d.feed b).1.buffer = d.buffer := by
  have taken := takes_selectRow d.phase b d.checksum
  rw [feed_eq, feedRow_buffer, if_neg]
  intro row
  rw [row] at taken
  exact outside taken

/-- A row of R61 skips no phase on the way to `DATA`; the rows tried in `DATA`, after it and in the reserved phases have
no way left. -/
theorem bytesBeforeData_le_feedRow {b : Byte} {r : TokenRow} (taken : r.takes d.phase b d.checksum) :
    bytesBeforeData d.phase ≤ bytesBeforeData (d.feedRow b r).1.phase + 1 := by
  rw [bytesBeforeData_of_takes taken]
  cases r
  case seekSync | syncEsc | lenHiLoad | lenLoLoad | name1Load => exact le_rfl
  case seekNoise | syncMore => exact Nat.le_succ _
  case syncDesync => exact Nat.le_add_right 5 2
  case name2Load => exact Nat.le_add_left 1 _
  all_goals exact Nat.zero_le _

/-- Every byte brings `DATA` nearer by at most one. -/
theorem bytesBeforeData_le_feed (d : Decoder) (b : Byte) :
    bytesBeforeData d.phase ≤ bytesBeforeData (d.feed b).1.phase + 1 := by
  rw [feed_eq]
  exact bytesBeforeData_le_feedRow (takes_selectRow d.phase b d.checksum)

/-- No byte is stored before `DATA` is reached. -/
theorem feedAll_buffer_of_le_bytesBeforeData {xs : List Byte} (short : xs.length ≤ bytesBeforeData d.phase) :
    (d.feedAll xs).1.buffer = d.buffer := by
  induction xs generalizing d with
  | nil => rfl
  | cons b bs ih =>
    rw [List.length_cons] at short
    have outside : d.phase ≠ Phase.data := by
      intro data
      rw [data] at short
      exact absurd short (Nat.not_succ_le_zero _)
    have near := d.bytesBeforeData_le_feed b
    calc (d.feedAll (b :: bs)).1.buffer
        = (d.feed b).1.buffer := ih (by omega)
      _ = d.buffer := feed_buffer_of_ne_data outside b

/-- The byte of a one-byte payload is stored at address 0 (R120). -/
theorem HasRead.feed_first {n0 n1 b : Byte} (h : d.HasRead n0 n1 [b].length []) :
    ∃ e, d.feed b = (e, none) ∧ e.buffer.load 0#16 = .written b := by
  have data : d.phase = Phase.data := by
    rw [h.phase, h.count, h.expLen]
    rfl
  refine ⟨_, feed_of_takes (r := .dataAppend) data rfl, ?_⟩
  rw [h.count]
  exact d.buffer.load_store_same 0#16 b

end Decoder

/-- Settles O41: `SEEK` is six bytes before `DATA`, and the seven bytes are a sync byte, `ESC`, the header of a block of
one payload byte, and that byte. -/
theorem snapshotMargin : Obligations.SnapshotMargin := by
  refine ⟨fun d xs seeks short => ?_, fun d n0 n1 b seeks => ?_⟩
  · obtain ⟨seek, -⟩ := seeks
    apply Decoder.feedAll_buffer_of_le_bytesBeforeData
    rwa [seek]
  · obtain ⟨e, start, header⟩ := Decoder.feedAll_frame_start seeks (sync := 1) le_rfl n0 n1 (p := [b]) (by simp)
    have declared : declaredFor [b] = 0#16 := by simp [declaredFor]
    rw [declared] at start
    obtain ⟨f, stored, first⟩ := header.feed_first
    have fed := Decoder.feedAll_append start (Decoder.feedAll_cons_of_silent stored [])
    exact (congrArg (fun r => r.1.buffer.load 0#16) fed).trans first

end Machine
end Sys2Proof
end
